-- ==== Sys2Proof/Word.lean ====
section
/-! DEFINITION. The engine's units of data (00_scope.md R9, R10): the byte, and the bit stream with position 0 at
the head. -/

namespace Sys2Proof

/-- A byte of a frame or of a reply (R9). -/
abbrev Byte := BitVec 8

/-- A bit stream (R10, R35): a finite sequence of bits, position 0 (the front, the least significant bit, the first
bit transmitted) at the head of the list. -/
abbrev BitStream := List Bool

end Sys2Proof
end

