-- ==== Sys2Proof/Syntax.lean ====
section
/-! DEFINITION. The engine's syntax: TAP states, the 25 operations of 30_encoding.md R111, the six frame kinds of
R99 and R96, and the two interfaces an item can be presented at (R90). One constructor of `Instr` per row of
spec/opcode_table.json. -/

namespace Sys2Proof

/-- The seventeen values of the TAP replica (10_state.md R24, R25), under the spec's short names. -/
inductive TapState where
  /-- Test-Logic-Reset -/
  | tlr
  /-- Run-Test/Idle -/
  | rti
  /-- Select-DR-Scan -/
  | sds
  /-- Capture-DR -/
  | cdr
  /-- Shift-DR -/
  | shdr
  /-- Exit1-DR -/
  | e1dr
  /-- Pause-DR -/
  | pdr
  /-- Exit2-DR -/
  | e2dr
  /-- Update-DR -/
  | udr
  /-- Select-IR-Scan -/
  | sis
  /-- Capture-IR -/
  | cir
  /-- Shift-IR -/
  | shir
  /-- Exit1-IR -/
  | e1ir
  /-- Pause-IR -/
  | pir
  /-- Exit2-IR -/
  | e2ir
  /-- Update-IR -/
  | uir
  /-- the sentinel INVALID -/
  | inv
  deriving DecidableEq, Repr, Inhabited

/-- The second operand of `push_back` and `push_front` (40_bitstream.md R134, R135): a stream, or an integer with a
width, which stands for `bs_from_int` of the two. -/
inductive PushArg where
  | stream (b : BitStream)
  | int (v : BitVec 64) (k : Nat)
  deriving DecidableEq, Repr

/-- A command frame as its fields (30_encoding.md R92, R96): a J-frame with its bit count, flags byte and payload, or
an R-frame with its pulse count. -/
inductive Frame where
  | j (len : BitVec 32) (flags : Byte) (payload : List Byte)
  | r (n : BitVec 32)
  deriving DecidableEq, Repr

/-- The rows of spec/opcode_table.json: the operations of R111 with the operands of R110, then the frame kinds. -/
inductive Instr where
  /-- R131 -/
  | bsFromInt (v : BitVec 64) (k : Nat)
  /-- R132 -/
  | bsFromBytes (a : List Byte) (nbits : Nat)
  /-- R133, leftmost character at the head -/
  | bsFromString (str : List Char)
  /-- R134 -/
  | pushBack (s : BitStream) (b : PushArg)
  /-- R135 -/
  | pushFront (s : BitStream) (b : PushArg)
  /-- R136 -/
  | popBack (s : BitStream) (k : Nat)
  /-- R137 -/
  | popFront (s : BitStream) (k : Nat)
  /-- R138 -/
  | front (s : BitStream) (k : Nat)
  /-- R139 -/
  | back (s : BitStream) (k : Nat)
  /-- R140 -/
  | concat (a b : BitStream)
  /-- R141 -/
  | slice (s : BitStream) (first last : Nat)
  /-- R142 -/
  | toInt (s : BitStream)
  /-- R143 -/
  | toIntWindow (s : BitStream) (first last : Nat)
  /-- R144 -/
  | toStr (s : BitStream)
  /-- R145 -/
  | size (s : BitStream)
  /-- R170 -/
  | pack (s : BitStream)
  /-- R172 -/
  | unpack (y : List Byte) (n : Nat)
  /-- R174 -/
  | interleave (a b : List Byte)
  /-- R191 -/
  | tapNext (s : TapState) (tms : Bool)
  /-- R210 -/
  | flush
  /-- R220 -/
  | resetTap
  /-- R225 -/
  | goThruStates (targets : List TapState)
  /-- R230 -/
  | shiftTdi (bits : BitStream) (exitShift doFlush : Bool)
  /-- R234 -/
  | shiftTdo (n : Nat) (exitShift : Bool) (out : BitStream)
  /-- R240 -/
  | runTest (n : Nat)
  /-- R211, flags 0x02 -/
  | jframePutTms (len : BitVec 32) (payload : List Byte)
  /-- R212, flags 0x08 -/
  | jframePutTdi (len : BitVec 32) (payload : List Byte)
  /-- R213, flags 0x0A -/
  | jframePutTmsTdi (len : BitVec 32) (payload : List Byte)
  /-- R235, flags 0x01 -/
  | jframeGetTdo (len : BitVec 32)
  /-- R236, flags 0x05 -/
  | jframeGetTdoExit (len : BitVec 32)
  /-- R96 -/
  | rframe (n : BitVec 32)
  deriving DecidableEq, Repr

/-- One item presented to the machine (R90): a request at the engine's operation interface, in the byte form of R110,
or a command frame at the port, in the byte form of R92 and R96. -/
inductive Input where
  | request (bytes : List Byte)
  | frame (bytes : List Byte)
  deriving DecidableEq, Repr

end Sys2Proof
end

