-- ==== Sys2Proof/Config.lean ====
section
/-! DEFINITION. What one installation of the engine fixes (00_scope.md R7) and the values the spec leaves open. A
constant without a body has no value that Lean can see: what is proved holds whatever it is (log entries 10 and 11). -/

namespace Sys2Proof.Config

/-- The parameters of R7 that a rule names. `INT_W`, `LEN_W` and `N_TAP` have fixed values (Machine/Operands.lean, and the
constructors of `TapState`). -/
structure Params where
  /-- `JTAG_CMD`, the opcode byte of a J-frame -/
  jtagCmd : Byte
  /-- `RUNTEST_CMD`, the opcode byte of an R-frame -/
  runtestCmd : Byte
  /-- `FIFO_DEPTH`; `none` is an unbounded stream (decision D8) -/
  fifoDepth : Option Nat
  /-- `XFER_TIMEOUT_MS`: kept by the port, read by no rule (60_exceptions.md R306) -/
  xferTimeoutMs : Nat
  /-- `PORT_PRESENT` -/
  portPresent : Bool
  /-- `RUNTEST_TMS_LEVEL` -/
  runtestTmsLevel : Bool
  deriving DecidableEq, Repr

/-- R7's constraints: `RUNTEST_CMD ≠ JTAG_CMD` (decision D4) and `XFER_TIMEOUT_MS < 20000` (decision D26). -/
abbrev Params.wf (p : Params) : Prop := p.runtestCmd ≠ p.jtagCmd ∧ p.xferTimeoutMs < 20000

/-- `JTAG_CMD` is OPEN (decision D3). -/
opaque jtagCmd : Byte

/-- How far `RUNTEST_CMD` lies above `JTAG_CMD`, less one: every byte but `JTAG_CMD` itself is reached (decision D4). -/
opaque runtestGap : Fin 255

/-- `FIFO_DEPTH` is OPEN (decision D8). -/
opaque fifoDepth : Option Nat

/-- `PORT_PRESENT` is OPEN (decision D29). -/
opaque portPresent : Bool

/-- `RUNTEST_TMS_LEVEL` is OPEN (decision D22). -/
opaque runtestTmsLevel : Bool

/-- The parameters of this installation: the open ones are the constants above, the transfer deadline is R7's default. -/
def configured : Params where
  jtagCmd := jtagCmd
  runtestCmd := jtagCmd + BitVec.ofNat 8 (runtestGap.val + 1)
  fifoDepth := fifoDepth
  xferTimeoutMs := 100
  portPresent := portPresent
  runtestTmsLevel := runtestTmsLevel

/-- Why a `PortWrite` failed (20_memory.md R62). -/
inductive WriteFailure where
  | shortWrite
  | timeout
  | noHandle
  deriving DecidableEq, Repr, Inhabited

/-- DESIGN CHOICE, log entry 14.
What a failed `PortWrite` left behind the port, of which the spec says 'any value' (93 U14, U23; 70 R336, R343): the
physical TAP state, one of sixteen, and the reply bytes the device produced all the same. -/
structure Disturbance where
  tap : Fin 16
  stray : List Byte
  deriving DecidableEq, Repr, Inhabited

/-- The world's answer to one `PortWrite` (R62, 93 U8): a free input. -/
inductive WriteAnswer where
  | ok
  | failed (why : WriteFailure) (device : Disturbance)
  deriving DecidableEq, Repr, Inhabited

/-- Why a `PortRead` failed (20_memory.md R63). -/
inductive ReadFailure where
  | shortRead
  | timeout
  | noHandle
  deriving DecidableEq, Repr, Inhabited

/-- The world's answer to one `PortRead` (R63, 93 U8): a free input. DESIGN CHOICE, log entry 12, for its form: after a
failure the reply bytes pending in the port, whose count is unknown (10_state.md R38, 70 R337), are any list. -/
inductive ReadAnswer where
  | ok
  | failed (why : ReadFailure) (pending : List Byte)
  deriving DecidableEq, Repr, Inhabited

/-- The answers to port writes beyond those a state lists: free values. -/
opaque freeWriteAnswer : Nat → WriteAnswer

/-- The answers to port reads beyond those a state lists: free values. -/
opaque freeReadAnswer : Nat → ReadAnswer

/-- The reply bytes of the device beyond those a state lists: free values (93 U10, U12). -/
opaque freeReplyByte : Nat → Byte

/-- The reply bytes pending after a read that was answered `ok` though too few bytes were there: free values (10_state.md
R38). -/
opaque freePending : Nat → List Byte

/-- A physical TAP state of which the spec says 'any value' (93 U14, U15) or gives no meaning (70_reset_and_hazards.md
R339): one of the sixteen. -/
opaque freeTap : Nat → Fin 16

end Sys2Proof.Config
end

