-- ==== Sys2Proof/Machine/Operands.lean ====
section
/-! DEFINITION. The pure functions on operands: integers and bit streams (40_bitstream.md), bits and bytes
(41_packing.md), the codes of TAP states (10_state.md R25) and the literals of the spec under their names (00_scope.md
R8). -/

namespace Sys2Proof.Machine

/-- `INT_W`: the width of the integers the bit FIFO converts to and from (R7). -/
def intWidth : Nat := 64

/-- `LEN_W`: the width of a header's count field (R7). -/
def lenWidth : Nat := 32

/-- `RESET_ONES`: how many ones `reset_tap` sends (43_jtag_ops.md R220). -/
def resetOnes : Nat := 5

/-- The length of an R-frame's echo in bytes (30_encoding.md R98). -/
def echoBytes : Nat := 5

/-- The number of bytes that hold `n` bits (R9). -/
def ceil8 (n : Nat) : Nat := (n + 7) / 8

/-- A bit as a number. -/
def bitVal (b : Bool) : Nat := if b then 1 else 0

/-- `bits_k(v)` (R10): the stream of length `k` whose position `i` holds bit `i` of `v`. -/
def bitsOf (k v : Nat) : BitStream := (List.range k).map fun i => v.testBit i

/-- `val(s)` (R10): the sum of `s[i] * 2^i` over all positions. -/
def val : BitStream → Nat
  | [] => 0
  | b :: s => bitVal b + 2 * val s

/-- `s[a..b)` (R10). -/
def window (s : BitStream) (a b : Nat) : BitStream := (s.drop a).take (b - a)

/-- One bit per byte, a non-zero byte giving 1 (40_bitstream.md R132). -/
def bitsOfBytes (a : List Byte) (nbits : Nat) : BitStream := (a.take nbits).map fun y => y != 0

/-- A character is a binary digit (R133). -/
def isDigit (c : Char) : Bool := c == '0' || c == '1'

/-- The stream of a binary-digit string, the rightmost character becoming position 0 (R133). -/
def bitsOfString (str : List Char) : BitStream := (str.map fun c => c == '1').reverse

/-- The binary-digit string of a stream, the leftmost character the back (R144). -/
def stringOfBits (s : BitStream) : List Char := (s.map fun b => if b then '1' else '0').reverse

/-- The stream a push adds (R134): an integer operand stands for `bs_from_int` of it. -/
def pushBits : PushArg → BitStream
  | .stream b => b
  | .int v k => bitsOf k v.toNat

/-- The width check an integer operand of a push brings with it (R134). -/
def pushWidthOk : PushArg → Bool
  | .stream _ => true
  | .int _ k => decide (k ≤ intWidth)

/-- The `k` positions nearest the back (R136, R139). -/
def topBits (s : BitStream) (k : Nat) : BitStream := s.drop (s.length - k)

/-- The positions below the `k` nearest the back (R136). -/
def belowTop (s : BitStream) (k : Nat) : BitStream := s.take (s.length - k)

/-- The integer of a stream: the `min(|s|, 64)` positions nearest the back (R142, conflict C3). -/
def intOf (s : BitStream) : Nat := val (topBits s (min s.length intWidth))

/-- The byte whose bit `j` is position `j` of a stream of up to eight bits, the bits beyond it 0 (41_packing.md R170,
decision D9). -/
def byteOf (s : BitStream) : Byte := BitVec.ofNat 8 (val (s.take 8))

/-- `pack(s)` (R170): byte `i` holds position `8 i + j` at bit `j`. -/
def packBits (s : BitStream) : List Byte := (List.range (ceil8 s.length)).map fun i => byteOf (s.drop (8 * i))

/-- Bit `t` of a byte sequence in transmission order (20_memory.md R54, decision D10). -/
def bitAt (y : List Byte) (t : Nat) : Bool := (y.getD (t / 8) 0).getLsbD (t % 8)

/-- `unpack(y, n)` (R172). -/
def unpackBits (y : List Byte) (n : Nat) : BitStream := (List.range n).map (bitAt y)

/-- `interleave(a, b)` (R174): `a` at the even positions and `b` at the odd ones. -/
def interleaveBytes (a b : List Byte) : List Byte := (a.zip b).flatMap fun p => [p.1, p.2]

/-- The bytes at the even positions (R175). -/
def evenBytes : List Byte → List Byte
  | [] => []
  | [x] => [x]
  | x :: _ :: y => x :: evenBytes y

/-- The bytes at the odd positions (R175). -/
def oddBytes (y : List Byte) : List Byte := evenBytes (y.drop 1)

/-- Byte `i` of a 32-bit count, which is bits `8i+7` to `8i` of it (30_encoding.md R102). -/
def countByte (c : BitVec 32) (i : Nat) : Byte := c.extractLsb' (8 * i) 8

/-- A 32-bit count as a header carries it, the least significant byte first (20_memory.md R55). -/
def countBytes (c : BitVec 32) : List Byte := [countByte c 0, countByte c 1, countByte c 2, countByte c 3]

/-- A count as the value of a header field. -/
def count32 (n : Nat) : BitVec 32 := BitVec.ofNat 32 n

/-- The code of a TAP state (10_state.md R25). -/
def tapCode : TapState → Nat
  | .tlr => 0 | .rti => 1 | .sds => 2 | .cdr => 3 | .shdr => 4 | .e1dr => 5 | .pdr => 6 | .e2dr => 7 | .udr => 8
  | .sis => 9 | .cir => 10 | .shir => 11 | .e1ir => 12 | .pir => 13 | .e2ir => 14 | .uir => 15 | .inv => 16

/-- The seventeen TAP states in the order of their codes (R25). -/
def tapStates : List TapState :=
  [.tlr, .rti, .sds, .cdr, .shdr, .e1dr, .pdr, .e2dr, .udr, .sis, .cir, .shir, .e1ir, .pir, .e2ir, .uir, .inv]

/-- The TAP state a code stands for; codes 17 to 31 stand for none (R25). -/
def tapOfCode (c : Nat) : Option TapState := tapStates[c]?

/-- One of the sixteen states of IEEE 1149.1, by its code (R25). -/
def ieeeState (c : Fin 16) : TapState := tapStates.getD c.val .tlr

/-- A state is one of the sixteen, which is to say not the sentinel. -/
def isIeee (s : TapState) : Bool := s != .inv

/-- The width of a length, a position or a pop count in a request, of which R110 gives none (log entry 4). -/
def lengthWidth : Nat := 64

/-- The width of a width operand (R110). -/
def widthWidth : Nat := 7

/-- A length fits its field. -/
def lengthFits (n : Nat) : Bool := decide (n < 2 ^ lengthWidth)

/-- A width operand fits its field. -/
def widthFits (k : Nat) : Bool := decide (k < 2 ^ widthWidth)

end Sys2Proof.Machine
end

