-- ==== Sys2Proof/Machine/State.lean ====
section
/-! DEFINITION. The machine's state, why it stops, and the state after reset (10_state.md R20 to R40). -/

namespace Sys2Proof.Machine

open Sys2Proof.Config

/-- The severities of 60_exceptions.md R280, in their order. -/
inductive Severity where
  | none
  | minor
  | major
  | fatal
  deriving DecidableEq, Repr

/-- The checks a `require` line makes, which is to say the sub-codes of a contract violation (R286). -/
inductive Check where
  | widthRange
  | underflow
  | badDigit
  | capacityOverflow
  | sliceRange
  | unequalBytes
  | lenOverflow
  | notInShift
  | tmsNotEmpty
  | tdiNotEmpty
  | zeroExit
  | unknownTapState
  | unreachableHop
  | badOp
  deriving DecidableEq, Repr

/-- The causes an operation can end with (R281). -/
inductive Cause where
  | noError
  | timeout
  | shortRead
  | shortWrite
  | echoMismatch
  | lengthMismatch
  | nullPort
  | noHandle
  | contractViolation (check : Check)
  deriving DecidableEq, Repr

/-- What an operation gives back beside its status (30_encoding.md R110, R111). -/
inductive Result where
  /-- the operation has a status only, or produced nothing -/
  | none
  | stream (s : BitStream)
  /-- the stream after a pop, and the removed bits -/
  | popped (s removed : BitStream)
  | int (v : Nat)
  | string (str : List Char)
  | bytes (y : List Byte)
  | tap (s : TapState)
  deriving DecidableEq, Repr

/-- How one port transfer ended, as an observer of the port sees it (00_scope.md R14). -/
inductive Transaction where
  | write (bytes : List Byte)
  | writeFailed (bytes : List Byte) (why : WriteFailure)
  | read (n : Nat) (bytes : List Byte)
  | readFailed (n : Nat) (why : ReadFailure)
  deriving DecidableEq, Repr

/-- What a frame made the device do on its pins (30_encoding.md R100, R101). -/
inductive PinEvent where
  /-- one TCK cycle: the levels of TMS and TDI, and the level of TDO where the frame captures it -/
  | cycle (tms tdi : Bool) (tdo : Option Bool)
  /-- the TCK pulses of an R-frame, with the level TMS is held at; the level of TDI is in no source -/
  | pulses (n : Nat) (tms : Bool)
  /-- a write that failed: what the device did with the part it got is not known (70 R336, R343) -/
  | unknown
  deriving DecidableEq, Repr

/-- Why the machine stops with a fault. -/
inductive Fault where
  /-- Raised by the step when a request's bytes are not in the form of 30_encoding.md R110 (bits missing, set bits after
  the last operand, a TAP code that no state has). The spec prescribes no meaning for such bytes. Safe: the machine
  stops. -/
  | malformedRequest
  deriving DecidableEq, Repr

/-- Why the machine refuses. -/
inductive Refusal where
  /-- Raised by an arm of `exec` for an instruction that has no meaning yet. Safe: no claim can be made. -/
  | notModelled (mnemonic : String)
  /-- Raised by the step when a frame at the port has a flag of bits 5 to 7, no bit count, another opcode, or a payload of
  another length than R95 gives it: what the device does with it is in no source (30_encoding.md R103 (a), (c), (d), 93
  U17; log entry 22). Safe: no claim can be made. -/
  | unknownFrame
  deriving DecidableEq, Repr

/-- The machine. The first four fields are the whole architectural state of the engine (R20); `params` are the
parameters of R7; `cause` and `result` are the response of the operation interface (R14, R110, R281); `port` is the
traffic an observer sees (R14); `inbound`, `physTap` and `pins` stand behind the port (R37, R38, R100); the rest is the
world: what is presented to the machine, and its answers. -/
structure State where
  /-- the parameters of R7, written by nothing -/
  params : Params
  /-- `TAPSTATE`, the TAP replica (R24) -/
  tapState : TapState
  /-- `TMSBUF` (R28) -/
  tmsBuf : BitStream
  /-- `TDIBUF` (R28) -/
  tdiBuf : BitStream
  /-- `ERR`, the sticky severity (R31) -/
  err : Severity
  /-- the cause the latest operation ended with; the severity of the status follows from it (R281) -/
  cause : Cause
  /-- the result of the latest operation (R110) -/
  result : Result
  /-- the transfers made on the port, oldest first (R14) -/
  port : List Transaction
  /-- the reply bytes that sit in the port until a read takes them, first to be read at the head; after a failed read a
  free list, its count being unknown (R38; log entry 12) -/
  inbound : List Byte
  /-- the physical TAP state of the target (R37) -/
  physTap : TapState
  /-- what the frames made the device do on its pins, oldest first (R100, R101) -/
  pins : List PinEvent
  /-- what is presented to the machine and not yet taken, next to be taken at the head (R13) -/
  inputs : List Input
  /-- the model's own: the world's answers to the next port writes (R62) -/
  writeAnswers : List WriteAnswer
  /-- the model's own: the world's answers to the next port reads (R63) -/
  readAnswers : List ReadAnswer
  /-- the model's own: the next bytes the device answers with (R63, R97, R98) -/
  replyBytes : List Byte
  /-- the model's own: how many answers to port writes have been used up -/
  writeCount : Nat
  /-- the model's own: how many answers to port reads have been used up -/
  readCount : Nat
  /-- the model's own: how many reply bytes the device has answered with -/
  replyCount : Nat
  /-- the model's own: how many free TAP states have been drawn -/
  tapCount : Nat
  deriving DecidableEq, Repr

/-- The machine right after reset (R40, 70_reset_and_hazards.md R320): `TAPSTATE` is INVALID, both buffers are empty, `ERR`
is None, the parameters keep their configured values, and nothing has been written to the port or read from it
(R321). No reply byte is pending: the premise `clean_port` of R322. The physical TAP state is unspecified (R40): a free
value. Nothing is presented. DESIGN CHOICE, log entries 1 and 2, for the values the spec does not state. -/
def State.reset : State where
  params := configured
  tapState := .inv
  tmsBuf := []
  tdiBuf := []
  err := .none
  cause := .noError
  result := .none
  port := []
  inbound := []
  physTap := ieeeState (freeTap 0)
  pins := []
  inputs := []
  writeAnswers := []
  readAnswers := []
  replyBytes := []
  writeCount := 0
  readCount := 0
  replyCount := 0
  tapCount := 1

end Sys2Proof.Machine
end

