-- ==== Sys2Proof/Machine/TapFsm.lean ====
section
/-! DEFINITION. The TAP state machine (42_tap_fsm.md): the next-state table, and walks over it. -/

namespace Sys2Proof.Machine

/-- `next(s, t)` (R191). The sixteen IEEE rows are the standard's (93 G2, so PRESUMED); the INVALID row is absorbing (R192,
decision D6). -/
def nextTap : TapState → Bool → TapState
  | .tlr, false => .rti
  | .tlr, true => .tlr
  | .rti, false => .rti
  | .rti, true => .sds
  | .sds, false => .cdr
  | .sds, true => .sis
  | .cdr, false => .shdr
  | .cdr, true => .e1dr
  | .shdr, false => .shdr
  | .shdr, true => .e1dr
  | .e1dr, false => .pdr
  | .e1dr, true => .udr
  | .pdr, false => .pdr
  | .pdr, true => .e2dr
  | .e2dr, false => .shdr
  | .e2dr, true => .udr
  | .udr, false => .rti
  | .udr, true => .sds
  | .sis, false => .cir
  | .sis, true => .tlr
  | .cir, false => .shir
  | .cir, true => .e1ir
  | .shir, false => .shir
  | .shir, true => .e1ir
  | .e1ir, false => .pir
  | .e1ir, true => .uir
  | .pir, false => .pir
  | .pir, true => .e2ir
  | .e2ir, false => .shir
  | .e2ir, true => .uir
  | .uir, false => .rti
  | .uir, true => .sds
  | .inv, false => .inv
  | .inv, true => .inv

/-- The state after a sequence of TMS bits, the first bit first. -/
def runTap (s : TapState) (bits : BitStream) : TapState := bits.foldl nextTap s

/-- A state stays where it is under a constant TMS level (R195). -/
def holdsUnder (s : TapState) (level : Bool) : Bool := nextTap s level == s

/-- `in_shift` (10_state.md R32). -/
def isShift (s : TapState) : Bool := s == .shdr || s == .shir

/-- The TMS bit of one hop of a walk: the TMS = 1 successor is tried first (43_jtag_ops.md R225). -/
def hopBit (c target : TapState) : Option Bool :=
  if nextTap c true = target then some true else if nextTap c false = target then some false else none

/-- The TMS bits of a walk, or nothing where a hop is not one TMS step (R225, the validation pass). -/
def walkBits (c : TapState) : List TapState → Option BitStream
  | [] => some []
  | t :: rest =>
    match hopBit c t, walkBits t rest with
    | some b, some bits => some (b :: bits)
    | _, _ => none

end Sys2Proof.Machine
end

