-- ==== Sys2Proof/Machine/Flags.lean ====
section
/-! DEFINITION. The flags of the engine: the flags byte of a J-frame (30_encoding.md R94), the severities and codes of a
status (60_exceptions.md R280, R281, R286), the sticky severity (R289) and the predicates the rules test (10_state.md
R32). -/

namespace Sys2Proof.Machine

/-- `GET_TDO` (R94). -/
def flagGetTdo : Byte := 0x01
/-- `PUT_TMS` (R94). -/
def flagPutTms : Byte := 0x02
/-- `TMS_VAL` (R94). -/
def flagTmsVal : Byte := 0x04
/-- `PUT_TDI` (R94). -/
def flagPutTdi : Byte := 0x08
/-- `TDI_VAL` (R94). -/
def flagTdiVal : Byte := 0x10

/-- The bits of a flags byte that R94 does not name. -/
def flagsUnnamed : Byte := 0xE0

/-- A flags byte has the bit of a mask. -/
def hasFlag (flags mask : Byte) : Bool := flags &&& mask != 0

/-- The payload length of a J-frame, from its flags and bit count (R95). -/
def payloadLength (flags : Byte) (len : Nat) : Nat :=
  match hasFlag flags flagPutTms, hasFlag flags flagPutTdi with
  | false, false => 0
  | true, false => ceil8 len
  | false, true => ceil8 len
  | true, true => 2 * ceil8 len

/-- The flags bytes of the five J-frames (R99). -/
def flagsTms : Byte := flagPutTms
/-- The flags byte of a TDI frame (R99). -/
def flagsTdi : Byte := flagPutTdi
/-- The flags byte of an interleaved frame (R99). -/
def flagsTmsTdi : Byte := flagPutTms ||| flagPutTdi
/-- The flags byte of a read frame (R99). -/
def flagsRead : Byte := flagGetTdo
/-- The flags byte of an exit frame (R99). -/
def flagsExit : Byte := flagGetTdo ||| flagTmsVal

/-- A J-frame is one the engine can emit: `1 ≤ len` (R93), the payload length of R95. -/
def frameFits (len : BitVec 32) (flags : Byte) (payload : List Byte) : Bool :=
  decide (1 ≤ len.toNat) && payload.length == payloadLength flags len.toNat

/-- The code of a severity (R280). -/
def severityCode : Severity → Nat
  | .none => 0 | .minor => 1 | .major => 2 | .fatal => 3

/-- The higher of two severities: 'The OR of two errors keeps the highest severity' (R31, R287). -/
def maxSeverity (a b : Severity) : Severity := if severityCode a < severityCode b then b else a

/-- The severity of a cause (R281). -/
def causeSeverity : Cause → Severity
  | .noError => .none
  | .timeout => .minor
  | .shortRead => .minor
  | .shortWrite => .minor
  | .echoMismatch => .major
  | .lengthMismatch => .fatal
  | .nullPort => .fatal
  | .noHandle => .fatal
  | .contractViolation _ => .fatal

/-- The code of a cause (R281). -/
def causeCode : Cause → Nat
  | .noError => 0 | .timeout => 1 | .shortRead => 2 | .shortWrite => 3 | .echoMismatch => 4
  | .lengthMismatch => 5 | .nullPort => 6 | .noHandle => 7 | .contractViolation _ => 8

/-- The sub-code of a contract violation (R286). -/
def checkCode : Check → Nat
  | .widthRange => 1 | .underflow => 2 | .badDigit => 3 | .capacityOverflow => 4 | .sliceRange => 5
  | .unequalBytes => 6 | .lenOverflow => 7 | .notInShift => 8 | .tmsNotEmpty => 9 | .tdiNotEmpty => 10
  | .zeroExit => 11 | .unknownTapState => 12 | .unreachableHop => 13 | .badOp => 14

/-- The status the latest operation returned (R280): the severity of its cause. -/
def State.status (s : State) : Severity := causeSeverity s.cause

/-- `tms_empty` (R32). -/
def State.tmsEmpty (s : State) : Bool := s.tmsBuf.isEmpty

/-- `tdi_empty` (R32). -/
def State.tdiEmpty (s : State) : Bool := s.tdiBuf.isEmpty

/-- `in_shift` (R32). -/
def State.inShift (s : State) : Bool := isShift s.tapState

/-- A stream of `n` bits fits `FIFO_DEPTH` (40_bitstream.md R152). -/
def State.fits (s : State) (n : Nat) : Bool :=
  match s.params.fifoDepth with
  | none => true
  | some d => decide (n ≤ d)

/-- A count fits the 32-bit field of a header (30_encoding.md R93). -/
def fitsCount (n : Nat) : Bool := decide (n < 2 ^ lenWidth)

/-- The cause a failed `PortWrite` is raised with (R281). -/
def writeCause : Config.WriteFailure → Cause
  | .shortWrite => .shortWrite
  | .timeout => .timeout
  | .noHandle => .noHandle

/-- The cause a failed `PortRead` is raised with (R281). -/
def readCause : Config.ReadFailure → Cause
  | .shortRead => .shortRead
  | .timeout => .timeout
  | .noHandle => .noHandle

end Sys2Proof.Machine
end

