-- ==== Sys2Proof/WellFormed.lean ====
section
/-! DEFINITION. Which instructions have an encoding: every operand fits the field the encoding gives it (30_encoding.md
R110, R92 to R96; log entry 4 for the fields R110 gives no width). -/

namespace Sys2Proof

open Sys2Proof.Machine

/-- The second operand of a push fits its fields. -/
def PushArg.wellFormed : PushArg → Bool
  | .stream b => lengthFits b.length
  | .int _ k => widthFits k

/-- An instruction has an encoding. -/
def Instr.wellFormed : Instr → Bool
  | .bsFromInt _ k => widthFits k
  | .bsFromBytes a nbits => lengthFits a.length && lengthFits nbits
  | .bsFromString str => lengthFits str.length && str.all fun c => decide (c.toNat < 256)
  | .pushBack s b => lengthFits s.length && b.wellFormed
  | .pushFront s b => lengthFits s.length && b.wellFormed
  | .popBack s k => lengthFits s.length && lengthFits k
  | .popFront s k => lengthFits s.length && lengthFits k
  | .front s k => lengthFits s.length && widthFits k
  | .back s k => lengthFits s.length && widthFits k
  | .concat a b => lengthFits a.length && lengthFits b.length
  | .slice s first last => lengthFits s.length && lengthFits first && lengthFits last
  | .toInt s => lengthFits s.length
  | .toIntWindow s first last => lengthFits s.length && lengthFits first && lengthFits last
  | .toStr s => lengthFits s.length
  | .size s => lengthFits s.length
  | .pack s => lengthFits s.length
  | .unpack y n => lengthFits y.length && lengthFits n
  | .interleave a b => lengthFits a.length && lengthFits b.length
  | .tapNext _ _ => true
  | .flush => true
  | .resetTap => true
  | .goThruStates targets => lengthFits targets.length
  | .shiftTdi bits _ _ => lengthFits bits.length
  | .shiftTdo n _ out => fitsCount n && lengthFits out.length
  | .runTest n => fitsCount n
  | .jframePutTms len payload => frameFits len flagsTms payload
  | .jframePutTdi len payload => frameFits len flagsTdi payload
  | .jframePutTmsTdi len payload => frameFits len flagsTmsTdi payload
  | .jframeGetTdo len => frameFits len flagsRead []
  | .jframeGetTdoExit len => decide (len = 1)
  | .rframe _ => true

end Sys2Proof
end

