-- ==== Sys2Proof/Decode.lean ====
section
/-! DEFINITION. The decoder and the encoder: requests in the form `REQ` of 30_encoding.md R110 with the operation codes
of R111, frames in the forms of R92 and R96.

A request is a string of bits, bit 0 first, packed into bytes as `pack` packs bits: the 8-bit operation code, then the
operands in the order of R111, each least significant bit first. What R110 leaves to the model (log entry 4): a length,
a byte count, a position and a pop count take 64 bits; the elements of a byte array and the characters of a string take
8 bits each; one bit before the second operand of a push says whether an integer (1) or a stream (0) follows; the bits
after the last operand are 0. -/

namespace Sys2Proof

open Sys2Proof.Machine
open Sys2Proof.Config

/-- Why bytes are no instruction. -/
inductive DecodeError where
  /-- an operation code R111 does not list -/
  | badOp
  /-- the bits end before the last operand does -/
  | truncated
  /-- a TAP code no state has (10_state.md R25) -/
  | badTapCode
  /-- a set bit after the last operand -/
  | trailingBits
  /-- a frame that is none of the six kinds of R99 and R96, but one that R94, R95 and R100 give a meaning -/
  | unlistedFrame (f : Frame)
  /-- a frame that no rule gives a meaning (R103 (a), (c), (d), 93 U17) -/
  | unknownFrame
  deriving DecidableEq, Repr

/-- An operand read from the front of a bit string, and the bits after it. -/
abbrev Parse (α : Type) := Except DecodeError (α × List Bool)

/-- The next `n` bits. -/
def readBits : Nat → List Bool → Parse BitStream
  | 0, bs => .ok ([], bs)
  | _ + 1, [] => .error .truncated
  | n + 1, b :: bs =>
    match readBits n bs with
    | .ok (v, rest) => .ok (b :: v, rest)
    | .error e => .error e

/-- An unsigned integer of `w` bits. -/
def readNat (w : Nat) (bs : List Bool) : Parse Nat :=
  match readBits w bs with
  | .ok (v, rest) => .ok (val v, rest)
  | .error e => .error e

/-- A boolean. -/
def readFlag (bs : List Bool) : Parse Bool :=
  match bs with
  | b :: rest => .ok (b, rest)
  | [] => .error .truncated

/-- A bit stream: its length, and that many bits, position 0 first (R110). -/
def readStream (bs : List Bool) : Parse BitStream :=
  match readNat lengthWidth bs with
  | .ok (n, rest) => readBits n rest
  | .error e => .error e

/-- A byte array: its length, and that many bytes. -/
def readBytes (bs : List Bool) : Parse (List Byte) :=
  match readNat lengthWidth bs with
  | .ok (n, rest) =>
    match readBits (8 * n) rest with
    | .ok (v, rest) => .ok (packBits v, rest)
    | .error e => .error e
  | .error e => .error e

/-- A string: its length, and that many characters, the leftmost first. -/
def readChars (bs : List Bool) : Parse (List Char) :=
  match readBytes bs with
  | .ok (y, rest) => .ok (y.map fun c => Char.ofNat c.toNat, rest)
  | .error e => .error e

/-- The second operand of a push. -/
def readPushArg (bs : List Bool) : Parse PushArg :=
  match readFlag bs with
  | .ok (false, rest) =>
    match readStream rest with
    | .ok (b, rest) => .ok (.stream b, rest)
    | .error e => .error e
  | .ok (true, rest) =>
    match readNat intWidth rest with
    | .ok (v, rest) =>
      match readNat widthWidth rest with
      | .ok (k, rest) => .ok (.int (BitVec.ofNat 64 v) k, rest)
      | .error e => .error e
    | .error e => .error e
  | .error e => .error e

/-- The operand of `tap_next`: the 5-bit code of one of the seventeen states (R110). -/
def readTap (bs : List Bool) : Parse TapState :=
  match readNat 5 bs with
  | .ok (c, rest) =>
    match tapOfCode c with
    | some s => .ok (s, rest)
    | none => .error .badTapCode
  | .error e => .error e

/-- The targets of a walk, 5-bit codes. A code no state has is a target that is not one of the sixteen states, like
INVALID, and is read as that: the walk then ends with `UnreachableHop` (43_jtag_ops.md R225, log entry 5). -/
def readTargets : Nat → List Bool → Parse (List TapState)
  | 0, bs => .ok ([], bs)
  | n + 1, bs =>
    match readNat 5 bs with
    | .ok (c, rest) =>
      match readTargets n rest with
      | .ok (ts, rest) => .ok ((tapOfCode c).getD .inv :: ts, rest)
      | .error e => .error e
    | .error e => .error e

/-- An operation of one operand. -/
def read1 {α : Type} (p : List Bool → Parse α) (f : α → Instr) (bs : List Bool) : Parse Instr :=
  match p bs with
  | .ok (a, rest) => .ok (f a, rest)
  | .error e => .error e

/-- An operation of two operands. -/
def read2 {α β : Type} (p : List Bool → Parse α) (q : List Bool → Parse β) (f : α → β → Instr)
    (bs : List Bool) : Parse Instr :=
  match p bs with
  | .ok (a, rest) => read1 q (f a) rest
  | .error e => .error e

/-- An operation of three operands. -/
def read3 {α β γ : Type} (p : List Bool → Parse α) (q : List Bool → Parse β) (r : List Bool → Parse γ)
    (f : α → β → γ → Instr) (bs : List Bool) : Parse Instr :=
  match p bs with
  | .ok (a, rest) => read2 q r (f a) rest
  | .error e => .error e

/-- The targets of a walk with their count before them. -/
def readWalk (bs : List Bool) : Parse (List TapState) :=
  match readNat lengthWidth bs with
  | .ok (n, rest) => readTargets n rest
  | .error e => .error e

/-- The operands of each operation code of R111, in R111's order: for `shift_tdo` it is `n`, `exit_shift`, `out`, where R110
points to the order of R234 (`n`, `out`, `exit_shift`); DESIGN CHOICE, log entry 29. -/
def decodeOperands (op : Nat) (bs : List Bool) : Parse Instr :=
  match op with
  | 0x01 => read2 (readNat intWidth) (readNat widthWidth) (fun v k => .bsFromInt (BitVec.ofNat 64 v) k) bs
  | 0x02 => read2 readBytes (readNat lengthWidth) .bsFromBytes bs
  | 0x03 => read1 readChars .bsFromString bs
  | 0x04 => read2 readStream readPushArg .pushBack bs
  | 0x05 => read2 readStream readPushArg .pushFront bs
  | 0x06 => read2 readStream (readNat lengthWidth) .popBack bs
  | 0x07 => read2 readStream (readNat lengthWidth) .popFront bs
  | 0x08 => read2 readStream (readNat widthWidth) .front bs
  | 0x09 => read2 readStream (readNat widthWidth) .back bs
  | 0x0A => read2 readStream readStream .concat bs
  | 0x0B => read3 readStream (readNat lengthWidth) (readNat lengthWidth) .slice bs
  | 0x0C => read1 readStream .toInt bs
  | 0x0D => read3 readStream (readNat lengthWidth) (readNat lengthWidth) .toIntWindow bs
  | 0x0E => read1 readStream .toStr bs
  | 0x0F => read1 readStream .size bs
  | 0x10 => read1 readStream .pack bs
  | 0x11 => read2 readBytes (readNat lengthWidth) .unpack bs
  | 0x12 => read2 readBytes readBytes .interleave bs
  | 0x20 => read2 readTap readFlag .tapNext bs
  | 0x40 => .ok (.flush, bs)
  | 0x41 => .ok (.resetTap, bs)
  | 0x42 => read1 readWalk .goThruStates bs
  | 0x43 => read3 readStream readFlag readFlag .shiftTdi bs
  | 0x44 => read3 (readNat lenWidth) readFlag readStream .shiftTdo bs
  | 0x45 => read1 (readNat lenWidth) .runTest bs
  | _ => .error .badOp

/-- All bits of a byte sequence, bit 0 of the first byte first. -/
def bitsOfAll : List Byte → List Bool
  | [] => []
  | y :: rest => unpackBits [y] 8 ++ bitsOfAll rest

/-- The instruction of a request (R110). -/
def decodeRequest (bytes : List Byte) : Except DecodeError Instr :=
  match readNat 8 (bitsOfAll bytes) with
  | .error e => .error e
  | .ok (op, operands) =>
    match decodeOperands op operands with
    | .error e => .error e
    | .ok (i, rest) => if rest.any id then .error .trailingBits else .ok i

/-- A count from its four bytes, the least significant first (R102). -/
def countOfBytes (b0 b1 b2 b3 : Byte) : BitVec 32 := b3 ++ b2 ++ b1 ++ b0

/-- A J-frame that R94, R95 and R100 give a meaning: a bit count of 1 or more, the payload length of R95, and no flag that
R94 does not name. -/
def jframeKnown (len : BitVec 32) (flags : Byte) (payload : List Byte) : Bool :=
  frameFits len flags payload && !hasFlag flags flagsUnnamed

/-- The fields of a command frame: the first byte tells the kind (R91), the rest is R92 or R96. Nothing for bytes that no
rule gives a meaning (R103, 93 U17; log entry 22). -/
def readFrame (p : Params) : List Byte → Option Frame
  | op :: b0 :: b1 :: b2 :: b3 :: rest =>
    if op = p.jtagCmd then
      match rest with
      | flags :: payload =>
        if jframeKnown (countOfBytes b0 b1 b2 b3) flags payload then some (.j (countOfBytes b0 b1 b2 b3) flags payload)
        else none
      | [] => none
    else if op = p.runtestCmd ∧ rest = [] then some (.r (countOfBytes b0 b1 b2 b3))
    else none
  | _ => none

/-- The instruction a frame is, where it is one of the six kinds of R99 and R96; an exit frame has a bit count of 1. -/
def instrOfFrame : Frame → Option Instr
  | .j len flags payload =>
    if flags = flagsTms then some (.jframePutTms len payload)
    else if flags = flagsTdi then some (.jframePutTdi len payload)
    else if flags = flagsTmsTdi then some (.jframePutTmsTdi len payload)
    else if flags = flagsRead then some (.jframeGetTdo len)
    else if flags = flagsExit ∧ len = 1 then some (.jframeGetTdoExit len)
    else none
  | .r n => some (.rframe n)

/-- The instruction of a command frame. -/
def decodeFrame (p : Params) (bytes : List Byte) : Except DecodeError Instr :=
  match readFrame p bytes with
  | none => .error .unknownFrame
  | some f =>
    match instrOfFrame f with
    | some i => .ok i
    | none => .error (.unlistedFrame f)

/-- The instruction of what is presented to the machine. -/
def decode (p : Params) : Input → Except DecodeError Instr
  | .request bytes => decodeRequest bytes
  | .frame bytes => decodeFrame p bytes

/-- A stream operand. -/
def streamBits (s : BitStream) : List Bool := bitsOf lengthWidth s.length ++ s

/-- A byte array operand. -/
def bytesBits (y : List Byte) : List Bool := bitsOf lengthWidth y.length ++ bitsOfAll y

/-- A string operand. -/
def charsBits (str : List Char) : List Bool := bytesBits (str.map fun c => BitVec.ofNat 8 c.toNat)

/-- The second operand of a push. -/
def pushArgBits : PushArg → List Bool
  | .stream b => false :: streamBits b
  | .int v k => true :: (bitsOf intWidth v.toNat ++ bitsOf widthWidth k)

/-- A TAP state operand. -/
def tapBits (s : TapState) : List Bool := bitsOf 5 (tapCode s)

/-- The operation code of a request (R111) and the bits of its operands; nothing for a frame. -/
def requestParts : Instr → Option (Nat × List Bool)
  | .bsFromInt v k => some (0x01, bitsOf intWidth v.toNat ++ bitsOf widthWidth k)
  | .bsFromBytes a nbits => some (0x02, bytesBits a ++ bitsOf lengthWidth nbits)
  | .bsFromString str => some (0x03, charsBits str)
  | .pushBack s b => some (0x04, streamBits s ++ pushArgBits b)
  | .pushFront s b => some (0x05, streamBits s ++ pushArgBits b)
  | .popBack s k => some (0x06, streamBits s ++ bitsOf lengthWidth k)
  | .popFront s k => some (0x07, streamBits s ++ bitsOf lengthWidth k)
  | .front s k => some (0x08, streamBits s ++ bitsOf widthWidth k)
  | .back s k => some (0x09, streamBits s ++ bitsOf widthWidth k)
  | .concat a b => some (0x0A, streamBits a ++ streamBits b)
  | .slice s first last => some (0x0B, streamBits s ++ (bitsOf lengthWidth first ++ bitsOf lengthWidth last))
  | .toInt s => some (0x0C, streamBits s)
  | .toIntWindow s first last => some (0x0D, streamBits s ++ (bitsOf lengthWidth first ++ bitsOf lengthWidth last))
  | .toStr s => some (0x0E, streamBits s)
  | .size s => some (0x0F, streamBits s)
  | .pack s => some (0x10, streamBits s)
  | .unpack y n => some (0x11, bytesBits y ++ bitsOf lengthWidth n)
  | .interleave a b => some (0x12, bytesBits a ++ bytesBits b)
  | .tapNext s tms => some (0x20, tapBits s ++ [tms])
  | .flush => some (0x40, [])
  | .resetTap => some (0x41, [])
  | .goThruStates targets => some (0x42, bitsOf lengthWidth targets.length ++ targets.flatMap tapBits)
  | .shiftTdi bits exitShift doFlush => some (0x43, streamBits bits ++ [exitShift, doFlush])
  | .shiftTdo n exitShift out => some (0x44, bitsOf lenWidth n ++ exitShift :: streamBits out)
  | .runTest n => some (0x45, bitsOf lenWidth n)
  | .jframePutTms _ _ => none
  | .jframePutTdi _ _ => none
  | .jframePutTmsTdi _ _ => none
  | .jframeGetTdo _ => none
  | .jframeGetTdoExit _ => none
  | .rframe _ => none

/-- The frame a frame instruction is; nothing for a request. -/
def frameOf : Instr → Option Frame
  | .jframePutTms len payload => some (.j len flagsTms payload)
  | .jframePutTdi len payload => some (.j len flagsTdi payload)
  | .jframePutTmsTdi len payload => some (.j len flagsTmsTdi payload)
  | .jframeGetTdo len => some (.j len flagsRead [])
  | .jframeGetTdoExit len => some (.j len flagsExit [])
  | .rframe n => some (.r n)
  | .bsFromInt _ _ => none
  | .bsFromBytes _ _ => none
  | .bsFromString _ => none
  | .pushBack _ _ => none
  | .pushFront _ _ => none
  | .popBack _ _ => none
  | .popFront _ _ => none
  | .front _ _ => none
  | .back _ _ => none
  | .concat _ _ => none
  | .slice _ _ _ => none
  | .toInt _ => none
  | .toIntWindow _ _ _ => none
  | .toStr _ => none
  | .size _ => none
  | .pack _ => none
  | .unpack _ _ => none
  | .interleave _ _ => none
  | .tapNext _ _ => none
  | .flush => none
  | .resetTap => none
  | .goThruStates _ => none
  | .shiftTdi _ _ _ => none
  | .shiftTdo _ _ _ => none
  | .runTest _ => none

/-- The bytes of a frame (R92, R96). -/
def frameBytes (p : Params) : Frame → List Byte
  | .j len flags payload => p.jtagCmd :: (countBytes len ++ flags :: payload)
  | .r n => p.runtestCmd :: countBytes n

/-- The bytes of an instruction at the interface it is presented at. -/
def encode (p : Params) (i : Instr) : Input :=
  match frameOf i, requestParts i with
  | some f, _ => .frame (frameBytes p f)
  | none, some (op, operands) => .request (packBits (bitsOf 8 op ++ operands))
  | none, none => .request []

/-- The number of zero bytes laid out after a table word: the operand fields of the longest request with zero operands
take 24 bytes. -/
def tableOperandBytes : Nat := 24

/-- The request whose bits are those of a table word: `nbits` bits of `w`, and operand bits of 0. -/
def tableWordBytes (nbits w : Nat) : List Byte :=
  packBits (bitsOf nbits w) ++ List.replicate tableOperandBytes 0

/-- The instruction the decoder reads from a word of spec/opcode_table.json. The five J-frame rows give the flags byte,
which is byte 5 of a frame, under the same bit numbers as a request's operation code (log entry 6): a word is read as a
request. -/
def decodeTableWord (nbits w : Nat) : Option Instr := (decodeRequest (tableWordBytes nbits w)).toOption

end Sys2Proof
end

