-- ==== Sys2Proof/Machine/Ops.lean ====
section
/-! DEFINITION. The shared operations: the completion of an operation, the error exit and the contract violation (which
take the place of exceptions, 60_exceptions.md), the port primitives (20_memory.md R62 to R64), what a frame asks of the
device (30_encoding.md R100, R101), the TMS step (42_tap_fsm.md R197) and the flush (43_jtag_ops.md R210 to R217). -/

namespace Sys2Proof.Machine

open Sys2Proof.Config

/-- The completion of an operation with a cause and a result: the status is the cause's severity, `ERR` keeps the highest
severity since reset (R289), and the response is presented (R110). -/
def complete (c : Cause) (r : Result) (s : State) : State :=
  { s with cause := c, result := r, err := maxSeverity s.err (causeSeverity c) }

/-- The error exit (R290, R291): both buffers are empty, `TAPSTATE` keeps the value the operation had given it, and
control returns to the upstream agent with the status. -/
def raise (c : Cause) (r : Result) (s : State) : State :=
  complete c r { s with tmsBuf := [], tdiBuf := [] }

/-- The contract violation (R286): status `Fatal`, and no state but `ERR` changes. -/
def violate (k : Check) (r : Result) (s : State) : State := complete (.contractViolation k) r s

/-- The first check of a list that fails, in the order written (R287). -/
def firstFailure : List (Bool × Check) → Option Check
  | [] => none
  | (true, _) :: rest => firstFailure rest
  | (false, k) :: _ => some k

/-- An operation behind its `require` lines: every one is checked before the first change of state (R286). `r` is the
result of a refused call. -/
def guarded (checks : List (Bool × Check)) (r : Result) (s after : State) : State :=
  match firstFailure checks with
  | some k => violate k r s
  | none => after

/-- The end of an operation that has a status only: its completion, or the error exit. -/
def conclude (c : Cause) (r : Result) (s : State) : State :=
  match c with
  | .noError => complete .noError r s
  | _ => raise c r s

/-- The world's answer to the `n`-th port write from here (R62): the one the state lists, or a free value. -/
def State.writeAnswer (s : State) (n : Nat) : WriteAnswer := s.writeAnswers.getD n (freeWriteAnswer (s.writeCount + n))

/-- The world's answer to the `n`-th port read from here (R63): the one the state lists, or a free value. -/
def State.readAnswer (s : State) (n : Nat) : ReadAnswer := s.readAnswers.getD n (freeReadAnswer (s.readCount + n))

/-- The `n`-th byte from here that the device answers with: the one the state lists, or a free value. -/
def State.replyByte (s : State) (n : Nat) : Byte := s.replyBytes.getD n (freeReplyByte (s.replyCount + n))

/-- The next `n` bytes the device answers with. -/
def nextReply (n : Nat) (s : State) : List Byte := (List.range n).map s.replyByte

/-- A write transfer is recorded and its answer used up. -/
def recordWrite (t : Transaction) (s : State) : State :=
  { s with port := s.port ++ [t], writeAnswers := s.writeAnswers.drop 1, writeCount := s.writeCount + 1 }

/-- A read transfer is recorded and its answer used up; these bytes are pending in the port after it (R38). -/
def recordRead (t : Transaction) (pending : List Byte) (s : State) : State :=
  { s with
    port := s.port ++ [t]
    inbound := pending
    readAnswers := s.readAnswers.drop 1
    readCount := s.readCount + 1 }

/-- The pulses of an R-frame leave the target where it is: the one case the spec gives a meaning for the physical TAP
(70_reset_and_hazards.md R339, decision D22), `TAPSTATE = RTI` and TMS low, with the target in `RTI` too (R37). -/
def pulsesHold (s : State) : Bool := s.tapState == .rti && s.physTap == .rti && !s.params.runtestTmsLevel

/-- The target after a frame whose write failed. A read frame with static TMS = 0 leaves it in its Shift state (70 R336), and
the pulses of an R-frame hold it where `pulsesHold` says so, however many of them came; otherwise it is in any of the
sixteen states (93 U14). DESIGN CHOICE, log entry 14. -/
def brokenTap (f : Frame) (free : TapState) (s : State) : TapState :=
  match f with
  | .j _ flags _ => if flags = flagsRead ∧ isShift s.physTap = true then s.physTap else free
  | .r _ => if pulsesHold s then s.physTap else free

/-- A failed write leaves the device in a state of which the spec says little (93 U14, U23); DESIGN CHOICE, log entry 14. -/
def disturb (f : Frame) (d : Disturbance) (s : State) : State :=
  { s with
    physTap := brokenTap f (ieeeState d.tap) s
    inbound := s.inbound ++ d.stray
    pins := s.pins ++ [.unknown] }

/-- The packed TMS bytes of a payload (R95). -/
def tmsPart (flags : Byte) (payload : List Byte) : List Byte :=
  if hasFlag flags flagPutTdi then evenBytes payload else payload

/-- The packed TDI bytes of a payload (R95). -/
def tdiPart (flags : Byte) (payload : List Byte) : List Byte :=
  if hasFlag flags flagPutTms then oddBytes payload else payload

/-- The level of TMS in cycle `t` of a J-frame (R100). -/
def tmsPin (flags : Byte) (payload : List Byte) (t : Nat) : Bool :=
  if hasFlag flags flagPutTms then bitAt (tmsPart flags payload) t else hasFlag flags flagTmsVal

/-- The level of TDI in cycle `t` of a J-frame (R100). -/
def tdiPin (flags : Byte) (payload : List Byte) (t : Nat) : Bool :=
  if hasFlag flags flagPutTdi then bitAt (tdiPart flags payload) t else hasFlag flags flagTdiVal

/-- The level of TDO in cycle `t`, where the frame captures it: bit `t` of the reply (R97, R100). -/
def tdoPin (flags : Byte) (reply : List Byte) (t : Nat) : Option Bool :=
  if hasFlag flags flagGetTdo then some (bitAt reply t) else none

/-- The TCK cycles of a J-frame (R100). -/
def frameCycles (len : Nat) (flags : Byte) (payload reply : List Byte) : List PinEvent :=
  (List.range len).map fun t => .cycle (tmsPin flags payload t) (tdiPin flags payload t) (tdoPin flags reply t)

/-- The TMS levels of a J-frame (R100). -/
def frameTms (len : Nat) (flags : Byte) (payload : List Byte) : BitStream := (List.range len).map (tmsPin flags payload)

/-- The bytes a frame obliges the device to answer with: `ceil8(len)` for a J-frame with `GET_TDO` (R97), five for an R-frame
(R98). -/
def replyLength : Frame → Nat
  | .j len flags _ => if hasFlag flags flagGetTdo then ceil8 len.toNat else 0
  | .r _ => echoBytes

/-- The device's pins under a frame (R100, R101). -/
def framePins (f : Frame) (reply : List Byte) (level : Bool) : List PinEvent :=
  match f with
  | .j len flags payload => frameCycles len.toNat flags payload reply
  | .r n => [.pulses n.toNat level]

/-- The physical TAP after a frame: one table step per TCK cycle of a J-frame (R100); after the pulses of an R-frame it is
where it was if `pulsesHold` says so, and otherwise in a free state (70 R339, 93 U15). DESIGN CHOICE, log entry 16. -/
def frameTap (f : Frame) (s : State) : TapState :=
  match f with
  | .j len flags payload => runTap s.physTap (frameTms len.toNat flags payload)
  | .r _ => if pulsesHold s then s.physTap else ieeeState (freeTap s.tapCount)

/-- How many free TAP states a frame draws. -/
def tapDraws : Frame → Nat
  | .j _ _ _ => 0
  | .r _ => 1

/-- DESIGN CHOICE, log entry 13.
The device takes a whole frame: it drives its pins, the target's TAP moves, and the reply bytes come to sit in the
port (R38, R100, R101). -/
def deviceFrame (f : Frame) (s : State) : State :=
  { s with
    pins := s.pins ++ framePins f (nextReply (replyLength f) s) s.params.runtestTmsLevel
    physTap := frameTap f s
    inbound := s.inbound ++ nextReply (replyLength f) s
    replyBytes := s.replyBytes.drop (replyLength f)
    replyCount := s.replyCount + replyLength f
    tapCount := s.tapCount + tapDraws f }

/-- `emit` and `PortWrite` (R62, R64): with no port the outcome is `NullPort` and nothing is transferred; a delivered frame
is taken by the device. -/
def emitFrame (f : Frame) (s : State) : Cause × State :=
  if s.params.portPresent then
    match s.writeAnswer 0 with
    | .ok => (.noError, deviceFrame f (recordWrite (.write (frameBytes s.params f)) s))
    | .failed why d => (writeCause why, disturb f d (recordWrite (.writeFailed (frameBytes s.params f) why) s))
  else (.nullPort, s)

/-- How a read of `n` bytes fails, with the bytes pending after it, or nothing where it succeeds (R63): it returns exactly
`n` bytes, is a short read where fewer arrived and a timeout where none did. What is pending after a failure is unknown
(10_state.md R38, 70 R337): a free list. Log entry 12. -/
def readFailure (n : Nat) (s : State) : Option (ReadFailure × List Byte) :=
  match s.readAnswer 0 with
  | .ok =>
    if n ≤ s.inbound.length then none
    else some (if s.inbound.length = 0 then .timeout else .shortRead, freePending s.readCount)
  | .failed why pending => some (why, pending)

/-- What a read gives back: how it ended, the bytes (none on a failure), and the state after it. -/
structure ReadReply where
  cause : Cause
  bytes : List Byte
  state : State
  deriving DecidableEq, Repr

/-- `PortRead(n)` (R63, R64). -/
def portRead (n : Nat) (s : State) : ReadReply :=
  if s.params.portPresent then
    match readFailure n s with
    | none => ⟨.noError, s.inbound.take n, recordRead (.read n (s.inbound.take n)) (s.inbound.drop n) s⟩
    | some (why, pending) => ⟨readCause why, [], recordRead (.readFailed n why) pending s⟩
  else ⟨.nullPort, [], s⟩

/-- The TMS step (R197): the bit is queued and the replica moves with it. -/
def queueTms (s : State) (t : Bool) : State :=
  { s with tmsBuf := s.tmsBuf ++ [t], tapState := nextTap s.tapState t }

/-- TMS bits queued one after another. -/
def queueAll (s : State) (bits : BitStream) : State := bits.foldl queueTms s

/-- The cases of a flush (R210). -/
inductive FlushCase where
  | empty
  | tmsOnly
  | tdiOnly
  | equal
  | split
  | mismatch
  deriving DecidableEq, Repr

/-- The case two buffer lengths select, in the order R210 tests them. -/
def flushCase (t d : Nat) : FlushCase :=
  if t = 0 ∧ d = 0 then .empty
  else if d = 0 then .tmsOnly
  else if t = 0 then .tdiOnly
  else if t = d then .equal
  else if t = 1 then .split
  else .mismatch

/-- Every frame a flush of these lengths writes has a bit count below `2^32` (R217); a mismatch writes none. -/
def flushCounts (t d : Nat) : Bool :=
  match flushCase t d with
  | .empty => true
  | .tmsOnly => fitsCount t
  | .tdiOnly => fitsCount d
  | .equal => fitsCount t
  | .split => fitsCount (d - 1)
  | .mismatch => true

/-- The frames a flush of these buffers writes, in order (R211 to R214). -/
def flushFrames (tms tdi : BitStream) : List Frame :=
  match flushCase tms.length tdi.length with
  | .empty => []
  | .tmsOnly => [.j (count32 tms.length) flagsTms (packBits tms)]
  | .tdiOnly => [.j (count32 tdi.length) flagsTdi (packBits tdi)]
  | .equal => [.j (count32 tms.length) flagsTmsTdi (interleaveBytes (packBits tms) (packBits tdi))]
  | .split =>
    [.j (count32 (tdi.length - 1)) flagsTdi (packBits (belowTop tdi 1)),
      .j 1 flagsTmsTdi (interleaveBytes (packBits tms) (packBits (topBits tdi 1)))]
  | .mismatch => []

/-- Frames written in order, up to the first failure (R288). -/
def emitAll : List Frame → State → Cause × State
  | [], s => (.noError, s)
  | f :: rest, s =>
    match emitFrame f s with
    | (.noError, s') => emitAll rest s'
    | (c, s') => (c, s')

/-- The body of a flush (R210): the buffers are emptied, then a mismatch is raised, or the frames are written. -/
def flushBuffers (s : State) : State :=
  match flushCase s.tmsBuf.length s.tdiBuf.length with
  | .mismatch => raise .lengthMismatch .none { s with tmsBuf := [], tdiBuf := [] }
  | _ =>
    conclude (emitAll (flushFrames s.tmsBuf s.tdiBuf) { s with tmsBuf := [], tdiBuf := [] }).1 .none
      (emitAll (flushFrames s.tmsBuf s.tdiBuf) { s with tmsBuf := [], tdiBuf := [] }).2

/-- What a read frame and its reply give: how it ended, the captured bits (none on a failure), and the state after it. -/
structure Scan where
  cause : Cause
  bits : BitStream
  state : State
  deriving DecidableEq, Repr

/-- One read frame and the read of its reply (43_jtag_ops.md R235). -/
def scanTdo (n : Nat) (flags : Byte) (s : State) : Scan :=
  match emitFrame (.j (count32 n) flags []) s with
  | (.noError, s1) =>
    match portRead (ceil8 n) s1 with
    | ⟨.noError, y, s2⟩ => ⟨.noError, unpackBits y n, s2⟩
    | ⟨c, _, s2⟩ => ⟨c, [], s2⟩
  | (c, s1) => ⟨c, [], s1⟩

end Sys2Proof.Machine
end

