-- ==== Sys2Proof/Machine/BitFifo.lean ====
section
/-! DEFINITION. The bit FIFO operations (40_bitstream.md R131 to R145). None touches the sequencer's state or the port:
what changes is the response, and `ERR` on a contract violation. -/

namespace Sys2Proof.Machine

/-- A pure operation behind its checks. -/
def answer (checks : List (Bool × Check)) (r : Result) (s : State) : Host.Outcome State Fault Refusal :=
  .next (guarded checks .none s (complete .noError r s))

/-- A pure operation whose result is a stream, of which `FIFO_DEPTH` bounds the length (R152); DEDUCED, log entry 18. -/
def answerStream (checks : List (Bool × Check)) (r : BitStream) (s : State) : Host.Outcome State Fault Refusal :=
  answer (checks ++ [(s.fits r.length, .capacityOverflow)]) (.stream r) s

/-- A pop: the stream after it and the removed bits, neither longer than `FIFO_DEPTH` (R136, R137, R152). -/
def answerPopped (checks : List (Bool × Check)) (kept removed : BitStream) (s : State) :
    Host.Outcome State Fault Refusal :=
  answer (checks ++ [(s.fits kept.length && s.fits removed.length, .capacityOverflow)]) (.popped kept removed) s

/-- R131 -/
def execBsFromInt (v : BitVec 64) (k : Nat) (s : State) : Host.Outcome State Fault Refusal :=
  answerStream [(decide (k ≤ intWidth), .widthRange)] (bitsOf k v.toNat) s

/-- R132 -/
def execBsFromBytes (a : List Byte) (nbits : Nat) (s : State) : Host.Outcome State Fault Refusal :=
  answerStream [(decide (nbits ≤ a.length), .underflow)] (bitsOfBytes a nbits) s

/-- R133 -/
def execBsFromString (str : List Char) (s : State) : Host.Outcome State Fault Refusal :=
  answerStream [(str.all isDigit, .badDigit)] (bitsOfString str) s

/-- R134 -/
def execPushBack (a : BitStream) (b : PushArg) (s : State) : Host.Outcome State Fault Refusal :=
  answerStream [(pushWidthOk b, .widthRange)] (a ++ pushBits b) s

/-- R135 -/
def execPushFront (a : BitStream) (b : PushArg) (s : State) : Host.Outcome State Fault Refusal :=
  answerStream [(pushWidthOk b, .widthRange)] (pushBits b ++ a) s

/-- R136 -/
def execPopBack (a : BitStream) (k : Nat) (s : State) : Host.Outcome State Fault Refusal :=
  answerPopped [(decide (k ≤ a.length), .underflow)] (belowTop a k) (topBits a k) s

/-- R137 -/
def execPopFront (a : BitStream) (k : Nat) (s : State) : Host.Outcome State Fault Refusal :=
  answerPopped [(decide (k ≤ a.length), .underflow)] (a.drop k) (a.take k) s

/-- The preconditions of a peek, in the order R138 writes them. -/
def peekChecks (a : BitStream) (k : Nat) : List (Bool × Check) :=
  [(decide (1 ≤ k) && decide (k ≤ intWidth), .widthRange), (decide (k ≤ a.length), .underflow)]

/-- R138 -/
def execFront (a : BitStream) (k : Nat) (s : State) : Host.Outcome State Fault Refusal :=
  answer (peekChecks a k) (.int (val (a.take k))) s

/-- R139 -/
def execBack (a : BitStream) (k : Nat) (s : State) : Host.Outcome State Fault Refusal :=
  answer (peekChecks a k) (.int (val (topBits a k))) s

/-- R140 -/
def execConcat (a b : BitStream) (s : State) : Host.Outcome State Fault Refusal :=
  answerStream [] (a ++ b) s

/-- The precondition of a slice (R141). -/
def sliceChecks (a : BitStream) (first last : Nat) : List (Bool × Check) :=
  [(decide (first ≤ last) && decide (last ≤ a.length), .sliceRange)]

/-- R141 -/
def execSlice (a : BitStream) (first last : Nat) (s : State) : Host.Outcome State Fault Refusal :=
  answerStream (sliceChecks a first last) (window a first last) s

/-- R142 -/
def execToInt (a : BitStream) (s : State) : Host.Outcome State Fault Refusal :=
  answer [] (.int (intOf a)) s

/-- R143 -/
def execToIntWindow (a : BitStream) (first last : Nat) (s : State) : Host.Outcome State Fault Refusal :=
  answer (sliceChecks a first last) (.int (intOf (window a first last))) s

/-- R144 -/
def execToStr (a : BitStream) (s : State) : Host.Outcome State Fault Refusal :=
  answer [] (.string (stringOfBits a)) s

/-- R145 -/
def execSize (a : BitStream) (s : State) : Host.Outcome State Fault Refusal :=
  answer [] (.int a.length) s

end Sys2Proof.Machine
end

