-- ==== Sys2Proof/Machine/FrameOps.lean ====
section
/-! DEFINITION. The frame kinds of the opcode table as commands to the device: what each asks of the pins, and the
reply it obliges the device to give (30_encoding.md R97 to R101). No frame touches the engine's own state. A frame
presented so is taken by the device whether or not the engine has a port (20_memory.md R64 speaks of the engine's own
transfers only); DESIGN CHOICE, log entry 30. -/

namespace Sys2Proof.Machine

/-- R211, R100: TMS from the payload, TDI static 0, no reply. -/
def execJframePutTms (len : BitVec 32) (payload : List Byte) (s : State) : Host.Outcome State Fault Refusal :=
  .next (deviceFrame (.j len flagsTms payload) s)

/-- R212, R100: TDI from the payload, TMS static 0, no reply. -/
def execJframePutTdi (len : BitVec 32) (payload : List Byte) (s : State) : Host.Outcome State Fault Refusal :=
  .next (deviceFrame (.j len flagsTdi payload) s)

/-- R213, R100: TMS and TDI from the payload in lock-step, no reply. -/
def execJframePutTmsTdi (len : BitVec 32) (payload : List Byte) (s : State) : Host.Outcome State Fault Refusal :=
  .next (deviceFrame (.j len flagsTmsTdi payload) s)

/-- R235, R100: TDO captured with TMS and TDI static 0. -/
def execJframeGetTdo (len : BitVec 32) (s : State) : Host.Outcome State Fault Refusal :=
  .next (deviceFrame (.j len flagsRead []) s)

/-- R236, R100: TDO captured with TMS static 1 and TDI static 0. -/
def execJframeGetTdoExit (len : BitVec 32) (s : State) : Host.Outcome State Fault Refusal :=
  .next (deviceFrame (.j len flagsExit []) s)

/-- R101, R98: the TCK pulses, then the echo. -/
def execRframe (n : BitVec 32) (s : State) : Host.Outcome State Fault Refusal :=
  .next (deviceFrame (.r n) s)

end Sys2Proof.Machine
end

