-- ==== Sys2Proof/Machine/Packing.lean ====
section
/-! DEFINITION. Packing, unpacking and interleaving as operations of their own (41_packing.md R170, R172, R174), and the
next-state function (42_tap_fsm.md R191). -/

namespace Sys2Proof.Machine

/-- R170 -/
def execPack (a : BitStream) (s : State) : Host.Outcome State Fault Refusal :=
  answer [] (.bytes (packBits a)) s

/-- R172 -/
def execUnpack (y : List Byte) (n : Nat) (s : State) : Host.Outcome State Fault Refusal :=
  answerStream [(decide (ceil8 n ≤ y.length), .underflow)] (unpackBits y n) s

/-- R174 -/
def execInterleave (a b : List Byte) (s : State) : Host.Outcome State Fault Refusal :=
  answer [(decide (a.length = b.length), .unequalBytes)] (.bytes (interleaveBytes a b)) s

/-- R191 -/
def execTapNext (t : TapState) (tms : Bool) (s : State) : Host.Outcome State Fault Refusal :=
  answer [] (.tap (nextTap t tms)) s

end Sys2Proof.Machine
end

