-- ==== Sys2Proof/Machine/Sequencer.lean ====
section
/-! DEFINITION. The sequencer operations (43_jtag_ops.md R210 to R240). -/

namespace Sys2Proof.Machine

/-- R210: the count check of R217, then the flush. -/
def execFlush (s : State) : Host.Outcome State Fault Refusal :=
  .next (guarded [(flushCounts s.tmsBuf.length s.tdiBuf.length, .lenOverflow)] .none s (flushBuffers s))

/-- R220: five ones are queued, `TAPSTATE` becomes Test-Logic-Reset outright, and the buffers are flushed. -/
def execResetTap (s : State) : Host.Outcome State Fault Refusal :=
  .next (guarded
    [(s.fits (s.tmsBuf.length + resetOnes), .capacityOverflow),
      (flushCounts (s.tmsBuf.length + resetOnes) s.tdiBuf.length, .lenOverflow)]
    .none s
    (flushBuffers { s with tmsBuf := s.tmsBuf ++ List.replicate resetOnes true, tapState := .tlr }))

/-- R225: the whole walk is checked before a bit is queued (decision D28). -/
def execGoThruStates (targets : List TapState) (s : State) : Host.Outcome State Fault Refusal :=
  .next (guarded
    [(isIeee s.tapState, .unknownTapState),
      (targets.all isIeee, .unreachableHop),
      ((walkBits s.tapState targets).isSome, .unreachableHop),
      (s.fits (s.tmsBuf.length + targets.length), .capacityOverflow),
      (flushCounts (s.tmsBuf.length + targets.length) s.tdiBuf.length, .lenOverflow)]
    .none s
    (flushBuffers (queueAll s ((walkBits s.tapState targets).getD []))))

/-- R230. The capacity check of the queued TMS bit is that of the TMS step (42_tap_fsm.md R197); DEDUCED, log entry 19. -/
def execShiftTdi (bits : BitStream) (exitShift doFlush : Bool) (s : State) : Host.Outcome State Fault Refusal :=
  .next (guarded
    [(s.inShift, .notInShift),
      (s.tmsEmpty, .tmsNotEmpty),
      (s.fits (s.tdiBuf.length + bits.length), .capacityOverflow),
      (!exitShift || s.fits (s.tmsBuf.length + 1), .capacityOverflow),
      (!doFlush || flushCounts (if exitShift then 1 else 0) (s.tdiBuf.length + bits.length), .lenOverflow)]
    .none s
    (let queued := { s with tdiBuf := s.tdiBuf ++ bits }
     let exited := if exitShift then queueTms queued true else queued
     if doFlush then flushBuffers exited else complete .noError .none exited))

/-- R235: the read with static TMS = 0. -/
def readPlain (n : Nat) (out : BitStream) (s : State) : State :=
  if n = 0 then complete .noError (.stream out) s
  else
    match scanTdo n flagsRead s with
    | ⟨.noError, bits, s1⟩ => complete .noError (.stream (out ++ bits)) s1
    | ⟨c, _, s1⟩ => raise c (.stream out) s1

/-- R236: the final bit, in the cycle that leaves the Shift state; the replica is stepped just before the frame is written. -/
def readExit (first out : BitStream) (s : State) : State :=
  match scanTdo 1 flagsExit { s with tapState := nextTap s.tapState true } with
  | ⟨.noError, bits, s1⟩ => complete .noError (.stream (out ++ (first ++ bits))) s1
  | ⟨c, _, s1⟩ => raise c (.stream out) s1

/-- R236: the first `n - 1` bits, where there are any, then the final bit. -/
def readThenExit (n : Nat) (out : BitStream) (s : State) : State :=
  if n ≤ 1 then readExit [] out s
  else
    match scanTdo (n - 1) flagsRead s with
    | ⟨.noError, bits, s1⟩ => readExit bits out s1
    | ⟨c, _, s1⟩ => raise c (.stream out) s1

/-- R234. On any status other than None the stream `out` is given back unchanged (decision D31). -/
def execShiftTdo (n : Nat) (exitShift : Bool) (out : BitStream) (s : State) : Host.Outcome State Fault Refusal :=
  .next (guarded
    [(s.inShift, .notInShift),
      (s.tmsEmpty, .tmsNotEmpty),
      (s.tdiEmpty, .tdiNotEmpty),
      (fitsCount n, .lenOverflow),
      (!exitShift || decide (1 ≤ n), .zeroExit),
      (s.fits (out.length + n), .capacityOverflow)]
    (.stream out) s
    (if exitShift then readThenExit n out s else readPlain n out s))

/-- The echo of an R-frame (30_encoding.md R98): only its first byte is compared. -/
def checkEcho (y : List Byte) (s : State) : State :=
  if y.head? = some s.params.runtestCmd then complete .noError .none s else raise .echoMismatch .none s

/-- R240 -/
def execRunTest (n : Nat) (s : State) : Host.Outcome State Fault Refusal :=
  .next (guarded
    [(fitsCount n, .lenOverflow), (s.tmsEmpty, .tmsNotEmpty), (s.tdiEmpty, .tdiNotEmpty)]
    .none s
    (match emitFrame (.r (count32 n)) s with
    | (.noError, s1) =>
      match portRead echoBytes s1 with
      | ⟨.noError, y, s2⟩ => checkEcho y s2
      | ⟨c, _, s2⟩ => raise c .none s2
    | (c, s1) => raise c .none s1))

end Sys2Proof.Machine
end

