-- ==== Sys2Proof/Machine/Dispatch.lean ====
section
/-! DEFINITION. What each instruction does: one arm per row of spec/opcode_table.json. -/

namespace Sys2Proof.Machine

def exec (i : Instr) (s : State) : Host.Outcome State Fault Refusal :=
  match i with
  | .bsFromInt v k => Sys2Proof.Machine.execBsFromInt v k s
  | .bsFromBytes a nbits => Sys2Proof.Machine.execBsFromBytes a nbits s
  | .bsFromString str => Sys2Proof.Machine.execBsFromString str s
  | .pushBack a b => Sys2Proof.Machine.execPushBack a b s
  | .pushFront a b => Sys2Proof.Machine.execPushFront a b s
  | .popBack a k => Sys2Proof.Machine.execPopBack a k s
  | .popFront a k => Sys2Proof.Machine.execPopFront a k s
  | .front a k => Sys2Proof.Machine.execFront a k s
  | .back a k => Sys2Proof.Machine.execBack a k s
  | .concat a b => Sys2Proof.Machine.execConcat a b s
  | .slice a first last => Sys2Proof.Machine.execSlice a first last s
  | .toInt a => Sys2Proof.Machine.execToInt a s
  | .toIntWindow a first last => Sys2Proof.Machine.execToIntWindow a first last s
  | .toStr a => Sys2Proof.Machine.execToStr a s
  | .size a => Sys2Proof.Machine.execSize a s
  | .pack a => Sys2Proof.Machine.execPack a s
  | .unpack y n => Sys2Proof.Machine.execUnpack y n s
  | .interleave a b => Sys2Proof.Machine.execInterleave a b s
  | .tapNext t tms => Sys2Proof.Machine.execTapNext t tms s
  | .flush => Sys2Proof.Machine.execFlush s
  | .resetTap => Sys2Proof.Machine.execResetTap s
  | .goThruStates targets => Sys2Proof.Machine.execGoThruStates targets s
  | .shiftTdi bits exitShift doFlush => Sys2Proof.Machine.execShiftTdi bits exitShift doFlush s
  | .shiftTdo n exitShift out => Sys2Proof.Machine.execShiftTdo n exitShift out s
  | .runTest n => Sys2Proof.Machine.execRunTest n s
  | .jframePutTms len payload => Sys2Proof.Machine.execJframePutTms len payload s
  | .jframePutTdi len payload => Sys2Proof.Machine.execJframePutTdi len payload s
  | .jframePutTmsTdi len payload => Sys2Proof.Machine.execJframePutTmsTdi len payload s
  | .jframeGetTdo len => Sys2Proof.Machine.execJframeGetTdo len s
  | .jframeGetTdoExit len => Sys2Proof.Machine.execJframeGetTdoExit len s
  | .rframe n => Sys2Proof.Machine.execRframe n s

end Sys2Proof.Machine
end

