-- ==== Sys2Proof/Machine/Fetch.lean ====
section
/-! DEFINITION. What the machine does next (00_scope.md R13, 10_state.md R23): it has no program counter; the item at the
head of `inputs` is what the upstream agent presents, and one item runs to completion before the next is taken (20_memory.md
R70). -/

namespace Sys2Proof.Machine

/-- What the next step is to do. -/
inductive Fetched where
  /-- nothing is presented: the engine is idle (60_exceptions.md R308) -/
  | idle
  /-- an instruction, and the state it runs in -/
  | run (i : Instr) (s : State)
  /-- a request with an operation code R111 does not list, and the state after it -/
  | undefinedOp (s : State)
  /-- a frame of none of the six kinds that R100 gives a meaning, and the state after it -/
  | otherFrame (s : State)
  /-- a request that is not in the form of R110 -/
  | malformed
  /-- a frame that no rule gives a meaning -/
  | unknownFrame

/-- The state in which the item at the head has been taken. -/
def takeInput (s : State) : State := { s with inputs := s.inputs.tail }

/-- The next thing to do. An undefined operation code is the contract violation `BadOp` (30_encoding.md R111). A J-frame with
flags the engine never emits is 'meaningful to the device by rule R94' (R103 (b)), and the device does what R100 says;
DESIGN CHOICE, log entry 22. -/
def fetch (s : State) : Fetched :=
  match s.inputs with
  | [] => .idle
  | x :: _ =>
    match decode s.params x with
    | .ok i => .run i (takeInput s)
    | .error .badOp => .undefinedOp (violate .badOp .none (takeInput s))
    | .error (.unlistedFrame f) => .otherFrame (deviceFrame f (takeInput s))
    | .error .unknownFrame => .unknownFrame
    | .error .truncated => .malformed
    | .error .badTapCode => .malformed
    | .error .trailingBits => .malformed

end Sys2Proof.Machine
end

