-- ==== Sys2Proof/Machine/Step.lean ====
section
/-! DEFINITION. One step of the machine, and where it takes its next instruction from. -/

namespace Sys2Proof.Machine

/-- One step: the next item presented is decoded and run; with nothing presented the machine is idle and nothing changes
(log entry 3). -/
def step (s : State) : Host.Outcome State Fault Refusal :=
  match fetch s with
  | .idle => .next s
  | .run i t => exec i t
  | .undefinedOp t => .next t
  | .otherFrame t => .next t
  | .malformed => .fault .malformedRequest
  | .unknownFrame => .refused .unknownFrame

/-- The state in which the request of a table word is presented next (log entry 3). -/
def State.withFetchWord (s : State) (nbits w : Nat) : State :=
  { s with inputs := .request (tableWordBytes nbits w) :: s.inputs }

end Sys2Proof.Machine
end

