-- ==== Sys2Proof/Safety.lean ====
section
/-! DEFINITION. The terms in which claims speak of a run: the response of an operation, what is legal in a state, when
the replica agrees with the target, and the layout of a header written out on its own. -/

namespace Sys2Proof.Machine

/-- The state after an operation that completed with status None and changed nothing but its response. -/
def answered (r : Result) (s : State) : State := { s with cause := .noError, result := r }

/-- The state after a contract violation (60_exceptions.md R286). -/
def violated (k : Check) (r : Result) (s : State) : State :=
  { s with cause := .contractViolation k, result := r, err := .fatal }

/-- A state in which an operation ended with an error other than a contract violation, as far as its response goes: the
buffers are empty (R291), the status is the cause's and `ERR` keeps the maximum (R289). -/
def raised (c : Cause) (r : Result) (s : State) : State :=
  { s with tmsBuf := [], tdiBuf := [], cause := c, result := r, err := maxSeverity s.err (causeSeverity c) }

/-- The state with so many answers to writes, answers to reads, reply bytes and free TAP states used up: every transfer uses
up one answer, every reply its bytes, and a pulse frame one free TAP state (log entry 11). -/
def used (writes reads replies taps : Nat) (s : State) : State :=
  { s with
    writeAnswers := s.writeAnswers.drop writes
    writeCount := s.writeCount + writes
    readAnswers := s.readAnswers.drop reads
    readCount := s.readCount + reads
    replyBytes := s.replyBytes.drop replies
    replyCount := s.replyCount + replies
    tapCount := s.tapCount + taps }

/-- The state after a write of these bytes that failed, the target being where the world says (log entry 14). -/
def undelivered (bytes : List Byte) (tap : TapState) (why : Config.WriteFailure) (d : Config.Disturbance) (s : State) :
    State :=
  { used 1 0 0 0 s with
    port := s.port ++ [.writeFailed bytes why]
    physTap := tap
    inbound := s.inbound ++ d.stray
    pins := s.pins ++ [.unknown] }

/-- A flush of `t` TMS bits and `d` TDI bits would write a frame of `2^32` bits or more (43_jtag_ops.md R217). -/
abbrev countTooLong (t d : Nat) : Prop :=
  (d = 0 ∧ 2 ^ 32 ≤ t) ∨ (t = 0 ∧ 2 ^ 32 ≤ d) ∨ (t = d ∧ 2 ^ 32 ≤ t) ∨ (t = 1 ∧ 2 ≤ d ∧ 2 ^ 32 ≤ d - 1)

/-- What a refused call gives back (R286, decision D31): a `shift_tdo` its stream, any other nothing. -/
def refusedResult : Instr → Result
  | .shiftTdo _ _ out => .stream out
  | _ => .none

/-- An instruction is one of the 25 operations of 30_encoding.md R111. -/
def isRequest (i : Instr) : Bool := (frameOf i).isNone

/-- An instruction is one of the pure operations: the bit FIFO, packing, and `tap_next`. -/
def isPure : Instr → Bool
  | .flush | .resetTap | .goThruStates _ | .shiftTdi _ _ _ | .shiftTdo _ _ _ | .runTest _ => false
  | i => isRequest i

/-- A cause is a contract violation. -/
def isViolation : Cause → Bool
  | .contractViolation _ => true
  | _ => false

/-- An instruction ends as a contract violation of a check. -/
def violates (i : Instr) (s : State) (k : Check) : Prop :=
  ∃ t, exec i s = .next t ∧ t.cause = .contractViolation k

/-- A walk whose every target is one of the sixteen states and one TMS step away from the state before it
(43_jtag_ops.md R225). -/
def walkOk : TapState → List TapState → Bool
  | _, [] => true
  | c, t :: rest => (nextTap c true == t || nextTap c false == t) && t != .inv && walkOk t rest

/-- The operation codes of 30_encoding.md R111. -/
def opCodes : List Nat :=
  [0x01, 0x02, 0x03, 0x04, 0x05, 0x06, 0x07, 0x08, 0x09, 0x0A, 0x0B, 0x0C, 0x0D, 0x0E, 0x0F, 0x10, 0x11, 0x12, 0x20,
    0x40, 0x41, 0x42, 0x43, 0x44, 0x45]

/-- The most transfers an operation makes on the port (70_reset_and_hazards.md R345). -/
def mostTransfers : Instr → Nat
  | .flush | .resetTap | .goThruStates _ | .shiftTdi _ _ _ => 2
  | .shiftTdo _ _ _ => 4
  | .runTest _ => 2
  | _ => 0

/-- A count as the four bytes `n & 0xff, n >> 8, n >> 16, n >> 24`, each modulo 256 (30_encoding.md R92, R102). -/
def le32 (n : Nat) : List Byte :=
  [BitVec.ofNat 8 n, BitVec.ofNat 8 (n / 2 ^ 8), BitVec.ofNat 8 (n / 2 ^ 16), BitVec.ofNat 8 (n / 2 ^ 24)]

/-- A J-frame written out (R92). -/
def jframe (s : State) (len : Nat) (flags : Byte) (payload : List Byte) : List Byte :=
  [s.params.jtagCmd] ++ le32 len ++ [flags] ++ payload

/-- An R-frame written out (R96). -/
def rframe (s : State) (n : Nat) : List Byte := [s.params.runtestCmd] ++ le32 n

/-- Pin cycles that capture nothing, from the TMS and TDI levels of each. -/
def drivenCycles (tms tdi : BitStream) : List PinEvent := List.zipWith (fun a b => .cycle a b none) tms tdi

/-- Pin cycles that capture a TDO bit each, with TDI at 0 and TMS at one level. -/
def readCycles (tms : Bool) (tdo : BitStream) : List PinEvent := tdo.map fun b => .cycle tms false (some b)

/-- The premise `clean_port` (70_reset_and_hazards.md R322): no reply byte is pending. -/
abbrev State.cleanPort (s : State) : Prop := s.inbound = []

/-- The legal values of a state (10_state.md R34; 00_scope.md R7; the physical TAP is in one of the sixteen states). -/
abbrev State.legal (s : State) : Prop :=
  s.params.wf ∧ s.physTap ≠ .inv ∧ s.fits s.tmsBuf.length = true ∧ s.fits s.tdiBuf.length = true

/-- The buffer invariant of R30: between operations `TMSBUF` is empty, but for the one bit that a `shift_tdi` with exit
and without flush leaves in it, the replica then standing in an Exit1 state; and bits wait in `TDIBUF` beside an empty
`TMSBUF` only in a Shift state. -/
abbrev State.bufferRule (s : State) : Prop :=
  (s.tmsBuf = [] ∧ (s.tdiBuf = [] ∨ s.inShift = true)) ∨
    (s.tmsBuf = [true] ∧ (s.tapState = .e1dr ∨ s.tapState = .e1ir))

/-- What every step keeps. -/
abbrev State.Inv (s : State) : Prop := s.legal ∧ s.bufferRule

/-- The replica agrees with the target (R37), counting the bits still queued: with nothing queued on TMS the two states
are equal, and bits queued on TDI wait in a Shift state; after an exit that is not flushed the target is still in the
Shift state that the queued one will leave. -/
abbrev State.tracks (s : State) : Prop :=
  (s.tmsBuf = [] ∧ s.physTap = s.tapState ∧ (s.tdiBuf = [] ∨ s.inShift = true)) ∨
    (s.tmsBuf = [true] ∧ isShift s.physTap = true ∧ s.tapState = nextTap s.physTap true)

end Sys2Proof.Machine
end

