-- ==== Sys2Proof/Certificates/Slice0/Obligations.lean ====
section
/-! DEFINITION. The statements for the provers. A clause written with `violates` says which check refuses a call; what a
refused call leaves in the state is `Obligations.ViolationChangesOnlyErr`. -/

open Sys2Proof Sys2Proof.Machine Sys2Proof.Config

/-- 30_encoding.md R90, R110, R111 (requests, decision D23; the field widths R110 leaves open are log entry 4, the
model's choice), R92 to R96 (frames): decoding an encoded instruction gives it back. -/
def Obligations.DecodeOfEncode : Prop :=
  ∀ (p : Params) (i : Instr), p.wf → i.wellFormed = true → decode p (encode p i) = .ok i

/-- Words written out from R111, R110 (with the widths of log entry 4), R92 and R96. -/
def Obligations.DecodesTheSpecsWords : Prop :=
  decodeTableWord 8 0x40 = some .flush ∧
  decodeTableWord 8 0x41 = some .resetTap ∧
  decodeTableWord 8 0x0F = some (.size []) ∧
  decodeRequest [0x20, 0x24] = .ok (.tapNext .shdr true) ∧
  decodeRequest [0x45, 0x64, 0x00, 0x00, 0x00] = .ok (.runTest 100) ∧
  decodeRequest [0x01, 0x05, 0x00, 0x00, 0x00, 0x00, 0x00, 0x00, 0x00, 0x08] = .ok (.bsFromInt 5 8) ∧
  (∀ p : Params, decodeFrame p [p.jtagCmd, 0x05, 0x00, 0x00, 0x00, 0x02, 0x1F] = .ok (.jframePutTms 5 [0x1F])) ∧
  (∀ p : Params, p.wf → decodeFrame p [p.runtestCmd, 0x64, 0x00, 0x00, 0x00] = .ok (.rframe 100))

/-- 30_encoding.md R111, last sentence (the spec's decision D23, and D17 for what a violation leaves): a request with an
operation code the table does not list ends as `BadOp`, and only `ERR` and the response change (the target: log entry 15,
DEDUCED). -/
def Obligations.UndefinedOpCodeIsBadOp : Prop :=
  ∀ (s : State) (op : Byte) (operands : List Byte) (rest : List Input),
    op.toNat ∉ opCodes → s.inputs = .request (op :: operands) :: rest →
      step s = .next (violated .badOp .none { s with inputs := rest })

/-- 10_state.md R23, 20_memory.md R70; log entry 3 for the queue of inputs and the idle step: the item at the head is
taken and run. -/
def Obligations.StepRunsDecodedInstruction : Prop :=
  (∀ (s : State) (x : Input) (rest : List Input) (i : Instr),
    s.inputs = x :: rest → decode s.params x = .ok i → step s = exec i { s with inputs := rest }) ∧
  (∀ s : State, s.inputs = [] → step s = .next s)

/-- Log entries 4 and 5, the model's choice: bytes that are no request in the form of R110 stop the machine. A frame that no
rule gives a meaning is refused (30_encoding.md R103 (a), (c), (d), 93 U17; log entry 22): an opcode that is neither of
the two, a flag of bits 5 to 7, a bit count of 0. -/
def Obligations.MalformedInputStops : Prop :=
  (∀ (s : State) (bytes : List Byte) (rest : List Input) (e : DecodeError),
    s.inputs = .request bytes :: rest → decodeRequest bytes = .error e →
      e = .truncated ∨ e = .badTapCode ∨ e = .trailingBits → step s = .fault .malformedRequest) ∧
  (∀ (s : State) (bytes : List Byte) (rest : List Input),
    s.inputs = .frame bytes :: rest → decodeFrame s.params bytes = .error .unknownFrame →
      step s = .refused .unknownFrame) ∧
  (∀ (s : State) (op : Byte) (bytes : List Byte) (rest : List Input),
    s.inputs = .frame (op :: bytes) :: rest → op ≠ s.params.jtagCmd → op ≠ s.params.runtestCmd →
      step s = .refused .unknownFrame) ∧
  (∀ (s : State) (len : BitVec 32) (flags : Byte) (payload : List Byte) (rest : List Input),
    s.inputs = .frame (jframe s len.toNat flags payload) :: rest → 32 ≤ flags.toNat ∨ len = 0 →
      step s = .refused .unknownFrame)

/-- 30_encoding.md sections of R92 and R96: the bytes of a frame; the flags bytes are the spec's decision D14. -/
def Obligations.FrameBytesFollowHeaderLayout : Prop :=
  ∀ (s : State) (len n : BitVec 32) (payload : List Byte),
    encode s.params (.jframePutTms len payload) = .frame (jframe s len.toNat 0x02 payload) ∧
    encode s.params (.jframePutTdi len payload) = .frame (jframe s len.toNat 0x08 payload) ∧
    encode s.params (.jframePutTmsTdi len payload) = .frame (jframe s len.toNat 0x0A payload) ∧
    encode s.params (.jframeGetTdo len) = .frame (jframe s len.toNat 0x01 []) ∧
    encode s.params (.jframeGetTdoExit len) = .frame (jframe s len.toNat 0x05 []) ∧
    encode s.params (.rframe n) = .frame (rframe s n.toNat)

/-- 30_encoding.md R102, 20_memory.md R55: a count is split into four bytes, the least significant first, and put together
again from them. -/
def Obligations.CountsReassembleLittleEndian : Prop :=
  ∀ c : BitVec 32,
    (countBytes c).length = 4 ∧
    (∀ i, i < 4 → (countBytes c)[i]? = some (BitVec.ofNat 8 (c.toNat / 2 ^ (8 * i)))) ∧
    c.toNat = (((List.range 4).map fun i => ((countBytes c).getD i 0).toNat * 2 ^ (8 * i)).sum) ∧
    countOfBytes (countByte c 0) (countByte c 1) (countByte c 2) (countByte c 3) = c

/-- 40_bitstream.md R131. -/
def Obligations.BsFromIntResult : Prop :=
  ∀ (s : State) (v : BitVec 64) (k : Nat),
    (k ≤ 64 → s.fits k = true →
      ∃ r : BitStream, exec (.bsFromInt v k) s = .next (answered (.stream r) s) ∧ r.length = k ∧
        ∀ i, i < k → r[i]? = some (v.toNat.testBit i)) ∧
    (64 < k → violates (.bsFromInt v k) s .widthRange)

/-- 40_bitstream.md section 2; the order of the elements is the spec's decision D11. -/
def Obligations.BsFromBytesResult : Prop :=
  ∀ (s : State) (a : List Byte) (nbits : Nat),
    (nbits ≤ a.length → s.fits nbits = true →
      ∃ r : BitStream, exec (.bsFromBytes a nbits) s = .next (answered (.stream r) s) ∧ r.length = nbits ∧
        ∀ i, i < nbits → r[i]? = some (a.getD i 0 != 0)) ∧
    (a.length < nbits → violates (.bsFromBytes a nbits) s .underflow)

/-- 40_bitstream.md section 2; the refusal of other characters is the spec's decision D12. -/
def Obligations.BsFromStringResult : Prop :=
  ∀ (s : State) (str : List Char),
    ((∀ c ∈ str, c = '0' ∨ c = '1') → s.fits str.length = true →
      ∃ r : BitStream, exec (.bsFromString str) s = .next (answered (.stream r) s) ∧ r.length = str.length ∧
        ∀ i, i < str.length → r[i]? = (str[str.length - 1 - i]?).map fun c => c == '1') ∧
    ((∃ c ∈ str, c ≠ '0' ∧ c ≠ '1') → violates (.bsFromString str) s .badDigit)

/-- 40_bitstream.md R134, both operand forms. -/
def Obligations.PushBackResult : Prop :=
  ∀ (s : State) (a b : BitStream) (v : BitVec 64) (k : Nat),
    (s.fits (a.length + b.length) = true →
      ∃ r : BitStream, exec (.pushBack a (.stream b)) s = .next (answered (.stream r) s) ∧
        r.length = a.length + b.length ∧ (∀ i, i < a.length → r[i]? = a[i]?) ∧
        ∀ j, j < b.length → r[a.length + j]? = b[j]?) ∧
    (s.fits (a.length + b.length) = false → violates (.pushBack a (.stream b)) s .capacityOverflow) ∧
    (k ≤ 64 → exec (.pushBack a (.int v k)) s = exec (.pushBack a (.stream (bitsOf k v.toNat))) s) ∧
    (64 < k → violates (.pushBack a (.int v k)) s .widthRange)

/-- 40_bitstream.md R135, both operand forms. -/
def Obligations.PushFrontResult : Prop :=
  ∀ (s : State) (a b : BitStream) (v : BitVec 64) (k : Nat),
    (s.fits (a.length + b.length) = true →
      ∃ r : BitStream, exec (.pushFront a (.stream b)) s = .next (answered (.stream r) s) ∧
        r.length = a.length + b.length ∧ (∀ j, j < b.length → r[j]? = b[j]?) ∧
        ∀ i, i < a.length → r[b.length + i]? = a[i]?) ∧
    (s.fits (a.length + b.length) = false → violates (.pushFront a (.stream b)) s .capacityOverflow) ∧
    (k ≤ 64 → exec (.pushFront a (.int v k)) s = exec (.pushFront a (.stream (bitsOf k v.toNat))) s) ∧
    (64 < k → violates (.pushFront a (.int v k)) s .widthRange)

/-- 40_bitstream.md section 3; that a pop gives the removed bits as a stream is the spec's decision D13. -/
def Obligations.PopBackResult : Prop :=
  ∀ (s : State) (a : BitStream) (k : Nat),
    (k ≤ a.length → s.fits a.length = true →
      ∃ kept removed : BitStream, exec (.popBack a k) s = .next (answered (.popped kept removed) s) ∧
        kept ++ removed = a ∧ removed.length = k) ∧
    (a.length < k → violates (.popBack a k) s .underflow)

/-- 40_bitstream.md R137. -/
def Obligations.PopFrontResult : Prop :=
  ∀ (s : State) (a : BitStream) (k : Nat),
    (k ≤ a.length → s.fits a.length = true →
      ∃ kept removed : BitStream, exec (.popFront a k) s = .next (answered (.popped kept removed) s) ∧
        removed ++ kept = a ∧ removed.length = k) ∧
    (a.length < k → violates (.popFront a k) s .underflow)

/-- 40_bitstream.md section 4; the refusal of a peek beyond the stream is the spec's decision D17. -/
def Obligations.FrontResult : Prop :=
  ∀ (s : State) (a : BitStream) (k : Nat),
    (1 ≤ k → k ≤ 64 → k ≤ a.length →
      ∃ v : Nat, exec (.front a k) s = .next (answered (.int v) s) ∧ v < 2 ^ k ∧
        ∀ i, i < k → a[i]? = some (v.testBit i)) ∧
    (k < 1 ∨ 64 < k → violates (.front a k) s .widthRange) ∧
    (1 ≤ k → k ≤ 64 → a.length < k → violates (.front a k) s .underflow)

/-- 40_bitstream.md section 4; the refusal of a peek beyond the stream is the spec's decision D17. -/
def Obligations.BackResult : Prop :=
  ∀ (s : State) (a : BitStream) (k : Nat),
    (1 ≤ k → k ≤ 64 → k ≤ a.length →
      ∃ v : Nat, exec (.back a k) s = .next (answered (.int v) s) ∧ v < 2 ^ k ∧
        ∀ j, j < k → a[a.length - k + j]? = some (v.testBit j)) ∧
    (k < 1 ∨ 64 < k → violates (.back a k) s .widthRange) ∧
    (1 ≤ k → k ≤ 64 → a.length < k → violates (.back a k) s .underflow)

/-- 40_bitstream.md R140. -/
def Obligations.ConcatResult : Prop :=
  ∀ (s : State) (a b : BitStream),
    (s.fits (a.length + b.length) = true →
      ∃ r : BitStream, exec (.concat a b) s = .next (answered (.stream r) s) ∧
        r.length = a.length + b.length ∧ (∀ i, i < a.length → r[i]? = a[i]?) ∧
        (∀ j, j < b.length → r[a.length + j]? = b[j]?) ∧
        (a.length + b.length ≤ 64 → intOf r = (intOf b <<< a.length) ||| intOf a)) ∧
    (s.fits (a.length + b.length) = false → violates (.concat a b) s .capacityOverflow) ∧
    exec (.concat a b) s = exec (.pushBack a (.stream b)) s ∧
    exec (.concat a b) s = exec (.pushFront b (.stream a)) s

/-- 40_bitstream.md section 5; the range check is the spec's decision D34. -/
def Obligations.SliceResult : Prop :=
  ∀ (s : State) (a : BitStream) (first last : Nat),
    (first ≤ last → last ≤ a.length → s.fits (last - first) = true →
      ∃ r : BitStream, exec (.slice a first last) s = .next (answered (.stream r) s) ∧
        r.length = last - first ∧ ∀ i, i < last - first → r[i]? = a[first + i]?) ∧
    (last < first ∨ a.length < last → violates (.slice a first last) s .sliceRange)

/-- 40_bitstream.md R142: the value of the `min(|s|, 64)` positions nearest the back. -/
def Obligations.ToIntResult : Prop :=
  ∀ (s : State) (a : BitStream),
    ∃ v : Nat, exec (.toInt a) s = .next (answered (.int v) s) ∧ v < 2 ^ min a.length 64 ∧
      ∀ j, j < min a.length 64 → a[a.length - min a.length 64 + j]? = some (v.testBit j)

/-- 40_bitstream.md section 6: `to_int` of the slice; the range check is the spec's decision D34. -/
def Obligations.ToIntWindowResult : Prop :=
  ∀ (s : State) (a w : BitStream) (first last : Nat),
    (first ≤ last → last ≤ a.length → w.length = last - first → (∀ i, i < last - first → w[i]? = a[first + i]?) →
      ∃ v : Nat, exec (.toIntWindow a first last) s = .next (answered (.int v) s) ∧
        exec (.toInt w) s = .next (answered (.int v) s)) ∧
    (last < first ∨ a.length < last → violates (.toIntWindow a first last) s .sliceRange)

/-- 40_bitstream.md R144, with both inverses. -/
def Obligations.ToStringResult : Prop :=
  (∀ (s : State) (a : BitStream),
    ∃ str : List Char, exec (.toStr a) s = .next (answered (.string str) s) ∧ str.length = a.length ∧
      (∀ j, j < a.length → str[j]? = (a[a.length - 1 - j]?).map fun b => if b then '1' else '0') ∧
      bitsOfString str = a) ∧
  (∀ (s : State) (str : List Char), (∀ c ∈ str, c = '0' ∨ c = '1') →
    exec (.toStr (bitsOfString str)) s = .next (answered (.string str) s))

/-- 40_bitstream.md R145. -/
def Obligations.SizeResult : Prop :=
  ∀ (s : State) (a : BitStream), exec (.size a) s = .next (answered (.int a.length) s)

/-- 40_bitstream.md R150 (a) to (d). -/
def Obligations.BitFifoArithmeticLaws : Prop :=
  (∀ (v : BitVec 64) (k : Nat), k ≤ 64 → intOf (bitsOf k v.toNat) = v.toNat &&& (2 ^ k - 1)) ∧
  (∀ str : List Char, (∀ c ∈ str, c = '0' ∨ c = '1') → stringOfBits (bitsOfString str) = str) ∧
  (∀ (s : State) (a : BitStream) (v : BitVec 64) (k : Nat), k ≤ 64 → v.toNat < 2 ^ k →
    s.fits (a.length + k) = true →
    (∃ r, exec (.pushBack a (.int v k)) s = .next (answered (.stream r) s) ∧
      ∃ b, exec (.popBack r k) s = .next (answered (.popped a b) s) ∧ val b = v.toNat) ∧
    (∃ r, exec (.pushFront a (.int v k)) s = .next (answered (.stream r) s) ∧
      ∃ b, exec (.popFront r k) s = .next (answered (.popped a b) s) ∧ val b = v.toNat)) ∧
  (∀ a b : BitStream, a.length + b.length ≤ 64 → intOf (a ++ b) = (intOf b <<< a.length) ||| intOf a)

/-- 40_bitstream.md section 7, the spec's decision D8: a call in its stated ranges whose result would be longer than
`FIFO_DEPTH` is refused. -/
def Obligations.LongResultIsCapacityOverflow : Prop :=
  ∀ (s : State) (d : Nat), s.params.fifoDepth = some d →
    (∀ (v : BitVec 64) (k : Nat), k ≤ 64 → d < k → violates (.bsFromInt v k) s .capacityOverflow) ∧
    (∀ (a : List Byte) (n : Nat), n ≤ a.length → d < n → violates (.bsFromBytes a n) s .capacityOverflow) ∧
    (∀ str : List Char, (∀ c ∈ str, c = '0' ∨ c = '1') → d < str.length →
      violates (.bsFromString str) s .capacityOverflow) ∧
    (∀ (a : BitStream) (first last : Nat), first ≤ last → last ≤ a.length → d < last - first →
      violates (.slice a first last) s .capacityOverflow) ∧
    (∀ (y : List Byte) (n : Nat), (n + 7) / 8 ≤ y.length → d < n → violates (.unpack y n) s .capacityOverflow)

/-- 41_packing.md; the unused bits of the last byte are 0 by the spec's decision D9. -/
def Obligations.PackResult : Prop :=
  ∀ (s : State) (a : BitStream),
    ∃ y : List Byte, exec (.pack a) s = .next (answered (.bytes y) s) ∧ y.length = (a.length + 7) / 8 ∧
      ∀ i j, i < y.length → j < 8 → (y.getD i 0).getLsbD j = a.getD (8 * i + j) false

/-- 41_packing.md; the bit order of a reply byte is the spec's decision D10. -/
def Obligations.UnpackResult : Prop :=
  ∀ (s : State) (y : List Byte) (n : Nat),
    ((n + 7) / 8 ≤ y.length → s.fits n = true →
      ∃ r : BitStream, exec (.unpack y n) s = .next (answered (.stream r) s) ∧ r.length = n ∧
        ∀ t, t < n → r[t]? = some ((y.getD (t / 8) 0).getLsbD (t % 8))) ∧
    (y.length < (n + 7) / 8 → violates (.unpack y n) s .underflow)

/-- 41_packing.md R173, which the spec marks derived: both round trips. -/
def Obligations.PackUnpackRoundTrips : Prop :=
  (∀ a : BitStream, unpackBits (packBits a) a.length = a) ∧
  (∀ (y : List Byte) (n : Nat), (n + 7) / 8 = y.length →
    (packBits (unpackBits y n)).length = y.length ∧
    ∀ i j, i < y.length → j < 8 → ((packBits (unpackBits y n)).getD i 0).getLsbD j =
      (decide (8 * i + j < n) && (y.getD i 0).getLsbD j))

/-- 41_packing.md R174. -/
def Obligations.InterleaveResult : Prop :=
  ∀ (s : State) (a b : List Byte),
    (a.length = b.length →
      ∃ p : List Byte, exec (.interleave a b) s = .next (answered (.bytes p) s) ∧ p.length = 2 * a.length ∧
        ∀ i, i < a.length → p[2 * i]? = a[i]? ∧ p[2 * i + 1]? = b[i]?) ∧
    (a.length ≠ b.length → violates (.interleave a b) s .unequalBytes)

/-- 41_packing.md R175, which the spec marks derived: the even bytes of an interleaved payload give TMS back, the odd ones
TDI. -/
def Obligations.InterleavedPayloadSeparates : Prop :=
  ∀ tms tdi : BitStream, tms.length = tdi.length →
    unpackBits (evenBytes (interleaveBytes (packBits tms) (packBits tdi))) tms.length = tms ∧
    unpackBits (oddBytes (interleaveBytes (packBits tms) (packBits tdi))) tms.length = tdi

/-- 42_tap_fsm.md section of R191: the table row by row; sixteen rows are the standard's (93 G2, log entry 7), the
INVALID row is the spec's decision D6. -/
def Obligations.TapNextFollowsTable : Prop :=
  ∀ s : State,
    (∀ row ∈ ([(.tlr, .rti, .tlr), (.rti, .rti, .sds), (.sds, .cdr, .sis), (.cdr, .shdr, .e1dr), (.shdr, .shdr, .e1dr),
        (.e1dr, .pdr, .udr), (.pdr, .pdr, .e2dr), (.e2dr, .shdr, .udr), (.udr, .rti, .sds), (.sis, .cir, .tlr),
        (.cir, .shir, .e1ir), (.shir, .shir, .e1ir), (.e1ir, .pir, .uir), (.pir, .pir, .e2ir), (.e2ir, .shir, .uir),
        (.uir, .rti, .sds), (.inv, .inv, .inv)] : List (TapState × TapState × TapState)),
      exec (.tapNext row.1 false) s = .next (answered (.tap row.2.1) s) ∧
      exec (.tapNext row.1 true) s = .next (answered (.tap row.2.2) s)) ∧
    ∀ t : TapState, ∃ n0 n1 : TapState,
      exec (.tapNext t false) s = .next (answered (.tap n0) s) ∧ exec (.tapNext t true) s = .next (answered (.tap n1) s)

/-- 42_tap_fsm.md sections of R193 to R195: five ones reach Test-Logic-Reset from each of the sixteen states and fewer do not
from the six farthest; the two successors of a state differ; the states that hold (from the table, log entry 7). -/
def Obligations.TapTableLaws : Prop :=
  (∀ s : TapState, s ≠ .inv → runTap s (List.replicate 5 true) = .tlr) ∧
  (∀ s : TapState, s ≠ .inv →
    ((∀ n, n < 5 → runTap s (List.replicate n true) ≠ .tlr) ↔
      s ∈ [TapState.cdr, .shdr, .pdr, .cir, .shir, .pir])) ∧
  (∀ s : TapState, s ≠ .inv → nextTap s false ≠ nextTap s true) ∧
  (∀ s : TapState, s ≠ .inv →
    (nextTap s false = s ↔ s ∈ [TapState.rti, .shdr, .pdr, .shir, .pir]) ∧ (nextTap s true = s ↔ s = .tlr))

/-- 43_jtag_ops.md section of R211: a flush of TMS bits alone is one frame with flags 0x02; TDI is static 0 for its cycles.
What the pins carry and how the target moves is 30_encoding.md R100, which the spec marks derived, with log entries 13
(the device acts at once) and 7 (the table). -/
def Obligations.FlushTmsOnlyResult : Prop :=
  (∀ s : State,
    0 < s.tmsBuf.length → s.tmsBuf.length < 2 ^ 32 → s.tdiBuf = [] → s.params.portPresent = true →
    s.writeAnswer 0 = .ok →
    exec .flush s = .next { used 1 0 0 0 s with
      tmsBuf := []
      cause := .noError
      result := .none
      port := s.port ++ [.write (jframe s s.tmsBuf.length 0x02 (packBits s.tmsBuf))]
      physTap := runTap s.physTap s.tmsBuf
      pins := s.pins ++ drivenCycles s.tmsBuf (List.replicate s.tmsBuf.length false) }) ∧
  (∀ s : State, 2 ^ 32 ≤ s.tmsBuf.length → s.tdiBuf = [] → violates .flush s .lenOverflow)

/-- 43_jtag_ops.md section of R212: a flush of TDI bits alone is one frame; its flags byte 0x08, so TMS held at 0, is the
spec's decision D14. Pins and target: 30_encoding.md R100, log entries 13 and 7. -/
def Obligations.FlushTdiOnlyResult : Prop :=
  (∀ s : State,
    s.tmsBuf = [] → 0 < s.tdiBuf.length → s.tdiBuf.length < 2 ^ 32 → s.params.portPresent = true →
    s.writeAnswer 0 = .ok →
    exec .flush s = .next { used 1 0 0 0 s with
      tdiBuf := []
      cause := .noError
      result := .none
      port := s.port ++ [.write (jframe s s.tdiBuf.length 0x08 (packBits s.tdiBuf))]
      physTap := runTap s.physTap (List.replicate s.tdiBuf.length false)
      pins := s.pins ++ drivenCycles (List.replicate s.tdiBuf.length false) s.tdiBuf }) ∧
  (∀ s : State, s.tmsBuf = [] → 2 ^ 32 ≤ s.tdiBuf.length → violates .flush s .lenOverflow)

/-- 43_jtag_ops.md section of R213: a flush of equal lengths is one interleaved frame, and bit `t` of both goes out in the
same TCK cycle. That the flags byte is 0x0A with every unnamed bit 0 is the spec's decision D14; pins and target:
30_encoding.md R100, log entries 13 and 7. -/
def Obligations.FlushEqualResult : Prop :=
  (∀ s : State,
    0 < s.tmsBuf.length → s.tmsBuf.length < 2 ^ 32 → s.tmsBuf.length = s.tdiBuf.length → s.params.portPresent = true →
    s.writeAnswer 0 = .ok →
    exec .flush s = .next { used 1 0 0 0 s with
      tmsBuf := []
      tdiBuf := []
      cause := .noError
      result := .none
      port := s.port ++ [.write (jframe s s.tmsBuf.length 0x0A
        (interleaveBytes (packBits s.tmsBuf) (packBits s.tdiBuf)))]
      physTap := runTap s.physTap s.tmsBuf
      pins := s.pins ++ drivenCycles s.tmsBuf s.tdiBuf }) ∧
  (∀ s : State, 2 ^ 32 ≤ s.tmsBuf.length → s.tmsBuf.length = s.tdiBuf.length → violates .flush s .lenOverflow)

/-- 43_jtag_ops.md section of R214: the split case. The first frame carries all TDI bits but the last, the second the last
one with the TMS bit; if the first fails the second is not written. The flags byte 0x08 of the first is the spec's
decision D14; pins and target: 30_encoding.md R100, log entries 13, 14 and 7. -/
def Obligations.FlushSplitResult : Prop :=
  (∀ (s : State) (b : Bool),
    s.tmsBuf = [b] → 2 ≤ s.tdiBuf.length → s.tdiBuf.length - 1 < 2 ^ 32 → s.params.portPresent = true →
    s.writeAnswer 0 = .ok →
    (s.writeAnswer 1 = .ok →
      exec .flush s = .next { used 2 0 0 0 s with
        tmsBuf := []
        tdiBuf := []
        cause := .noError
        result := .none
        port := s.port ++
          [.write (jframe s (s.tdiBuf.length - 1) 0x08 (packBits (s.tdiBuf.take (s.tdiBuf.length - 1)))),
            .write (jframe s 1 0x0A
              ((packBits [b]).take 1 ++ (packBits (s.tdiBuf.drop (s.tdiBuf.length - 1))).take 1))]
        physTap := runTap s.physTap (List.replicate (s.tdiBuf.length - 1) false ++ [b])
        pins := s.pins ++ drivenCycles (List.replicate (s.tdiBuf.length - 1) false ++ [b]) s.tdiBuf }) ∧
    (∀ (why : WriteFailure) (d : Disturbance), s.writeAnswer 1 = .failed why d →
      exec .flush s = .next (raised (writeCause why) .none
        (undelivered
          (jframe s 1 0x0A ((packBits [b]).take 1 ++ (packBits (s.tdiBuf.drop (s.tdiBuf.length - 1))).take 1))
          (ieeeState d.tap) why d
          { used 1 0 0 0 s with
            port := s.port ++
              [.write (jframe s (s.tdiBuf.length - 1) 0x08 (packBits (s.tdiBuf.take (s.tdiBuf.length - 1))))]
            pins := s.pins ++ drivenCycles (List.replicate (s.tdiBuf.length - 1) false)
              (s.tdiBuf.take (s.tdiBuf.length - 1)) })))) ∧
  (∀ (s : State) (b : Bool) (why : WriteFailure) (d : Disturbance),
    s.tmsBuf = [b] → 2 ≤ s.tdiBuf.length → s.tdiBuf.length - 1 < 2 ^ 32 → s.params.portPresent = true →
    s.writeAnswer 0 = .failed why d →
    exec .flush s = .next (raised (writeCause why) .none
      (undelivered (jframe s (s.tdiBuf.length - 1) 0x08 (packBits (s.tdiBuf.take (s.tdiBuf.length - 1))))
        (ieeeState d.tap) why d s))) ∧
  (∀ (s : State) (b : Bool), s.tmsBuf = [b] → 2 ^ 32 ≤ s.tdiBuf.length - 1 → violates .flush s .lenOverflow)

/-- 43_jtag_ops.md section of R215 and 60_exceptions.md section of R291 (the spec's decision D21): any other pair of lengths
is `Fatal`, nothing is written, the buffers are emptied and `TAPSTATE` stays. That the target and the pins stay too is
none of these: 93 U14 says 'any value' of the target after such a status, and the model infers from 30_encoding.md R100 (no
frame, no TCK cycle) and 70_reset_and_hazards.md R336 that it does not move, log entry 15 (DEDUCED). -/
def Obligations.FlushMismatchResult : Prop :=
  ∀ s : State, 2 ≤ s.tmsBuf.length → 1 ≤ s.tdiBuf.length → s.tmsBuf.length ≠ s.tdiBuf.length →
    exec .flush s = .next (raised .lengthMismatch .none s)

/-- 43_jtag_ops.md section of R216, the spec's decision D15: a flush of empty buffers writes nothing, with or without a
port. -/
def Obligations.FlushEmptyResult : Prop :=
  ∀ s : State, s.tmsBuf = [] → s.tdiBuf = [] → exec .flush s = .next (answered .none s)

/-- 43_jtag_ops.md section of R220; that the ones go through `TMSBUF` and a flush is the spec's decision D27. From empty
buffers one frame goes out; whatever is queued and whatever the flush returns, `TAPSTATE` is Test-Logic-Reset and the
buffers are empty; the two refusals, and the mismatch with queued TDI bits. Pins and target: 30_encoding.md R100, log
entries 13 and 7; that both stay where nothing is written (a mismatch, a refusal) is log entry 15 (DEDUCED). -/
def Obligations.ResetTapResult : Prop :=
  (∀ s : State,
    s.tmsBuf = [] → s.tdiBuf = [] → s.fits 5 = true → s.params.portPresent = true → s.writeAnswer 0 = .ok →
    exec .resetTap s = .next { used 1 0 0 0 s with
      tapState := .tlr
      cause := .noError
      result := .none
      port := s.port ++ [.write ([s.params.jtagCmd] ++ [0x05, 0x00, 0x00, 0x00, 0x02, 0x1F])]
      physTap := runTap s.physTap (List.replicate 5 true)
      pins := s.pins ++ List.replicate 5 (.cycle true false none) }) ∧
  (∀ s : State, s.fits (s.tmsBuf.length + 5) = true → ¬ countTooLong (s.tmsBuf.length + 5) s.tdiBuf.length →
    exec .resetTap s = exec .flush { s with tmsBuf := s.tmsBuf ++ List.replicate 5 true, tapState := .tlr } ∧
    ∃ t, exec .resetTap s = .next t ∧ t.tapState = .tlr ∧ t.tmsBuf = [] ∧ t.tdiBuf = []) ∧
  (∀ s : State, s.fits (s.tmsBuf.length + 5) = true → 1 ≤ s.tdiBuf.length → s.tdiBuf.length ≠ s.tmsBuf.length + 5 →
    exec .resetTap s = .next (raised .lengthMismatch .none { s with tapState := .tlr })) ∧
  (∀ s : State, s.fits (s.tmsBuf.length + 5) = false →
    exec .resetTap s = .next (violated .capacityOverflow .none s)) ∧
  (∀ s : State, s.fits (s.tmsBuf.length + 5) = true → countTooLong (s.tmsBuf.length + 5) s.tdiBuf.length →
    exec .resetTap s = .next (violated .lenOverflow .none s))

/-- 43_jtag_ops.md section of R225: from empty buffers a walk of one or more hops is one frame with flags 0x02, each bit
taking the replica to the next target; an empty walk writes nothing; whatever is queued, a walk is the flush of its
queued bits. That the whole walk is checked first is the spec's decision D28. Pins and target: 30_encoding.md R100, log
entries 13 and 7. -/
def Obligations.GoThruStatesResult : Prop :=
  (∀ (s : State) (targets : List TapState),
    s.tapState ≠ .inv → targets ≠ [] → walkOk s.tapState targets = true → s.tmsBuf = [] → s.tdiBuf = [] →
    s.fits targets.length = true → targets.length < 2 ^ 32 → s.params.portPresent = true → s.writeAnswer 0 = .ok →
    ∃ bits : BitStream, bits.length = targets.length ∧
      (∀ k, k ≤ targets.length → runTap s.tapState (bits.take k) = (s.tapState :: targets).getD k .inv) ∧
      exec (.goThruStates targets) s = .next { used 1 0 0 0 s with
        tapState := targets.getLastD s.tapState
        cause := .noError
        result := .none
        port := s.port ++ [.write (jframe s targets.length 0x02 (packBits bits))]
        physTap := runTap s.physTap bits
        pins := s.pins ++ drivenCycles bits (List.replicate targets.length false) }) ∧
  (∀ s : State, s.tapState ≠ .inv → s.tmsBuf = [] → s.tdiBuf = [] →
    exec (.goThruStates []) s = .next (answered .none s)) ∧
  (∀ (s : State) (targets : List TapState),
    s.tapState ≠ .inv → walkOk s.tapState targets = true → s.fits (s.tmsBuf.length + targets.length) = true →
    ¬ countTooLong (s.tmsBuf.length + targets.length) s.tdiBuf.length →
    ∃ bits : BitStream, bits.length = targets.length ∧
      (∀ k, k ≤ targets.length → runTap s.tapState (bits.take k) = (s.tapState :: targets).getD k .inv) ∧
      exec (.goThruStates targets) s =
        exec .flush { s with tmsBuf := s.tmsBuf ++ bits, tapState := targets.getLastD s.tapState })

/-- 43_jtag_ops.md section of R225, the spec's decision D28: a walk from INVALID, a walk with a hop that is not one TMS step or
a target that is not one of the sixteen states, and a walk that `TMSBUF` or a header cannot hold, is refused before a
bit is queued. That the target and the pins stay too is log entry 15 (DEDUCED). -/
def Obligations.GoThruStatesRefusals : Prop :=
  ∀ (s : State) (targets : List TapState),
    (s.tapState = .inv → exec (.goThruStates targets) s = .next (violated .unknownTapState .none s)) ∧
    (s.tapState ≠ .inv → walkOk s.tapState targets = false →
      exec (.goThruStates targets) s = .next (violated .unreachableHop .none s)) ∧
    (s.tapState ≠ .inv → walkOk s.tapState targets = true → s.fits (s.tmsBuf.length + targets.length) = false →
      exec (.goThruStates targets) s = .next (violated .capacityOverflow .none s)) ∧
    (s.tapState ≠ .inv → walkOk s.tapState targets = true → s.fits (s.tmsBuf.length + targets.length) = true →
      countTooLong (s.tmsBuf.length + targets.length) s.tdiBuf.length →
      exec (.goThruStates targets) s = .next (violated .lenOverflow .none s))

/-- 43_jtag_ops.md section of R230: the preconditions in their order; the queuing; a call with `do_flush` is the flush of the
queued state. That an exit with no room for its one TMS bit is refused, after the check of `TDIBUF`, is 42_tap_fsm.md
R197 and log entry 19. -/
def Obligations.ShiftTdiResult : Prop :=
  ∀ (s : State) (bits : BitStream) (exitShift doFlush : Bool),
    (s.inShift = false → violates (.shiftTdi bits exitShift doFlush) s .notInShift) ∧
    (s.inShift = true → s.tmsBuf ≠ [] → violates (.shiftTdi bits exitShift doFlush) s .tmsNotEmpty) ∧
    (s.inShift = true → s.tmsBuf = [] → s.fits (s.tdiBuf.length + bits.length) = false →
      violates (.shiftTdi bits exitShift doFlush) s .capacityOverflow) ∧
    (s.inShift = true → s.tmsBuf = [] → s.fits (s.tdiBuf.length + bits.length) = true → exitShift = true →
      s.fits 1 = false → violates (.shiftTdi bits exitShift doFlush) s .capacityOverflow) ∧
    (s.inShift = true → s.tmsBuf = [] → s.fits (s.tdiBuf.length + bits.length) = true →
      (exitShift = true → s.fits 1 = true) →
      exec (.shiftTdi bits exitShift false) s = .next { s with
        tdiBuf := s.tdiBuf ++ bits
        tmsBuf := if exitShift then [true] else []
        tapState := if exitShift then nextTap s.tapState true else s.tapState
        cause := .noError
        result := .none } ∧
      (s.tdiBuf.length + bits.length < 2 ^ 32 + (if exitShift then 1 else 0) →
        exec (.shiftTdi bits exitShift true) s = exec .flush { s with
          tdiBuf := s.tdiBuf ++ bits
          tmsBuf := if exitShift then [true] else []
          tapState := if exitShift then nextTap s.tapState true else s.tapState }) ∧
      (2 ^ 32 + (if exitShift then 1 else 0) ≤ s.tdiBuf.length + bits.length →
        violates (.shiftTdi bits exitShift true) s .lenOverflow))

/-- 43_jtag_ops.md sections of R230 and R214: a shift of two or more bits with exit and flush, from empty buffers, ends in
an Exit1 state with two frames written and the last bit sent beside the TMS = 1. The flags byte of the first frame is the
spec's decision D14; pins and target: 30_encoding.md R100, log entries 13 and 7. -/
def Obligations.ShiftTdiExitResult : Prop :=
  ∀ (s : State) (bits : BitStream),
    s.inShift = true → s.tmsBuf = [] → s.tdiBuf = [] → 2 ≤ bits.length → bits.length ≤ 2 ^ 32 →
    s.fits bits.length = true → s.params.portPresent = true → s.writeAnswer 0 = .ok → s.writeAnswer 1 = .ok →
    exec (.shiftTdi bits true true) s = .next { used 2 0 0 0 s with
      tapState := if s.tapState = .shdr then .e1dr else .e1ir
      cause := .noError
      result := .none
      port := s.port ++
        [.write (jframe s (bits.length - 1) 0x08 (packBits (bits.take (bits.length - 1)))),
          .write (jframe s 1 0x0A ([0x01] ++ packBits (bits.drop (bits.length - 1))))]
      physTap := runTap s.physTap (List.replicate (bits.length - 1) false ++ [true])
      pins := s.pins ++ drivenCycles (List.replicate (bits.length - 1) false ++ [true]) bits }

/-- 43_jtag_ops.md section of R235, under the premise of a clean port (70_reset_and_hazards.md, section of R322; log entry
8): one read frame, one read, the captured bits appended to `out`, `TAPSTATE` unchanged. A read of no bits writes and
reads nothing: the spec's decision D16. Pins and target: 30_encoding.md R100, log entries 13 and 7. -/
def Obligations.ShiftTdoPlainResult : Prop :=
  (∀ (s : State) (n : Nat) (out : BitStream) (y : List Byte),
    s.inShift = true → s.tmsBuf = [] → s.tdiBuf = [] → 0 < n → n < 2 ^ 32 → s.fits (out.length + n) = true →
    s.params.portPresent = true → s.cleanPort → s.writeAnswer 0 = .ok → s.readAnswer 0 = .ok →
    y = nextReply ((n + 7) / 8) s →
    exec (.shiftTdo n false out) s = .next { used 1 1 ((n + 7) / 8) 0 s with
      cause := .noError
      result := .stream (out ++ unpackBits y n)
      port := s.port ++ [.write (jframe s n 0x01 []), .read ((n + 7) / 8) y]
      physTap := runTap s.physTap (List.replicate n false)
      pins := s.pins ++ readCycles false (unpackBits y n) }) ∧
  (∀ (s : State) (out : BitStream), s.inShift = true → s.tmsBuf = [] → s.tdiBuf = [] → s.fits out.length = true →
    exec (.shiftTdo 0 false out) s = .next (answered (.stream out) s))

/-- 43_jtag_ops.md section of R236, under the premise of a clean port (log entry 8): `n - 1` bits with static TMS = 0, then
the last with static TMS = 1, and the replica leaves the Shift state. With `n = 1` there is only the exit frame: the
spec's decision D16. Pins and target: 30_encoding.md R100, log entries 13 and 7. -/
def Obligations.ShiftTdoExitResult : Prop :=
  (∀ (s : State) (n : Nat) (out : BitStream) (y : List Byte) (z : Byte),
    s.inShift = true → s.tmsBuf = [] → s.tdiBuf = [] → 2 ≤ n → n < 2 ^ 32 → s.fits (out.length + n) = true →
    s.params.portPresent = true → s.cleanPort → s.writeAnswer 0 = .ok → s.writeAnswer 1 = .ok →
    s.readAnswer 0 = .ok → s.readAnswer 1 = .ok →
    y = nextReply ((n - 1 + 7) / 8) s → z = s.replyByte ((n - 1 + 7) / 8) →
    exec (.shiftTdo n true out) s = .next { used 2 2 ((n - 1 + 7) / 8 + 1) 0 s with
      tapState := if s.tapState = .shdr then .e1dr else .e1ir
      cause := .noError
      result := .stream (out ++ unpackBits y (n - 1) ++ [z.getLsbD 0])
      port := s.port ++ [.write (jframe s (n - 1) 0x01 []), .read ((n - 1 + 7) / 8) y,
        .write (jframe s 1 0x05 []), .read 1 [z]]
      physTap := nextTap (runTap s.physTap (List.replicate (n - 1) false)) true
      pins := s.pins ++ readCycles false (unpackBits y (n - 1)) ++ readCycles true [z.getLsbD 0] }) ∧
  (∀ (s : State) (out : BitStream) (z : Byte),
    s.inShift = true → s.tmsBuf = [] → s.tdiBuf = [] → s.fits (out.length + 1) = true →
    s.params.portPresent = true → s.cleanPort → s.writeAnswer 0 = .ok → s.readAnswer 0 = .ok → z = s.replyByte 0 →
    exec (.shiftTdo 1 true out) s = .next { used 1 1 1 0 s with
      tapState := if s.tapState = .shdr then .e1dr else .e1ir
      cause := .noError
      result := .stream (out ++ [z.getLsbD 0])
      port := s.port ++ [.write (jframe s 1 0x05 []), .read 1 [z]]
      physTap := nextTap s.physTap true
      pins := s.pins ++ readCycles true [z.getLsbD 0] })

/-- 43_jtag_ops.md section of R234: the preconditions in the order written; `ZeroExit` is the spec's decision D16, the order
its decision D33, and that `out` is given back its decision D31. That the target and the pins stay too is log entry 15
(DEDUCED). -/
def Obligations.ShiftTdoRefusals : Prop :=
  ∀ (s : State) (n : Nat) (exitShift : Bool) (out : BitStream),
    (s.inShift = false → exec (.shiftTdo n exitShift out) s = .next (violated .notInShift (.stream out) s)) ∧
    (s.inShift = true → s.tmsBuf ≠ [] →
      exec (.shiftTdo n exitShift out) s = .next (violated .tmsNotEmpty (.stream out) s)) ∧
    (s.inShift = true → s.tmsBuf = [] → s.tdiBuf ≠ [] →
      exec (.shiftTdo n exitShift out) s = .next (violated .tdiNotEmpty (.stream out) s)) ∧
    (s.inShift = true → s.tmsBuf = [] → s.tdiBuf = [] → 2 ^ 32 ≤ n →
      exec (.shiftTdo n exitShift out) s = .next (violated .lenOverflow (.stream out) s)) ∧
    (s.inShift = true → s.tmsBuf = [] → s.tdiBuf = [] → n = 0 → exitShift = true →
      exec (.shiftTdo n exitShift out) s = .next (violated .zeroExit (.stream out) s)) ∧
    (s.inShift = true → s.tmsBuf = [] → s.tdiBuf = [] → n < 2 ^ 32 → (exitShift = true → 1 ≤ n) →
      s.fits (out.length + n) = false →
      exec (.shiftTdo n exitShift out) s = .next (violated .capacityOverflow (.stream out) s))

/-- 43_jtag_ops.md sections of R234 and R236 (the spec's decisions D21, D29 and D31), 20_memory.md sections of R62 and R63: a
`shift_tdo` that ends with any status but None gives `out` back unchanged, and its replica is where it was or, with exit,
one TMS = 1 on. A first frame that is not delivered, or whose read fails, ends an exit read of two or more bits as it
ends the plain read of one bit less, the replica where it was; once they succeeded, a failure is that of the exit frame.
The failed write and the failed read of each frame are raised with their own cause, and nothing follows them. What is
pending after a failed read is any list (10_state.md section of R38; log entry 12), what is behind a failed write is log
entry 14. -/
def Obligations.FailedShiftTdoKeepsOut : Prop :=
  (∀ (s t : State) (n : Nat) (exitShift : Bool) (out : BitStream),
    exec (.shiftTdo n exitShift out) s = .next t → t.cause ≠ .noError →
      t.result = .stream out ∧
      (t.tapState = s.tapState ∨ (exitShift = true ∧ t.tapState = nextTap s.tapState true))) ∧
  (∀ (s t : State) (n : Nat) (out : BitStream),
    2 ≤ n →
    s.params.portPresent = false ∨ (∃ why d, s.writeAnswer 0 = .failed why d) ∨ s.readAnswer 0 ≠ .ok →
      exec (.shiftTdo n true out) s = .next t → t.tapState = s.tapState) ∧
  (∀ (s : State) (n : Nat) (out : BitStream),
    s.inShift = true → s.tmsBuf = [] → s.tdiBuf = [] → 2 ≤ n → n < 2 ^ 32 → s.fits (out.length + n) = true →
    s.params.portPresent = false ∨ (∃ why d, s.writeAnswer 0 = .failed why d) ∨ s.readAnswer 0 ≠ .ok →
      exec (.shiftTdo n true out) s = exec (.shiftTdo (n - 1) false out) s) ∧
  (∀ (s t : State) (n : Nat) (out : BitStream) (y : List Byte),
    s.inShift = true → s.tmsBuf = [] → s.tdiBuf = [] → 2 ≤ n → n < 2 ^ 32 → s.fits (out.length + n) = true →
    s.params.portPresent = true → s.writeAnswer 0 = .ok → s.readAnswer 0 = .ok →
    y = nextReply ((n - 1 + 7) / 8) s →
    exec (.shiftTdo 1 true out) { used 1 1 ((n - 1 + 7) / 8) 0 s with
      port := s.port ++ [.write (jframe s (n - 1) 0x01 []),
        .read ((n - 1 + 7) / 8) ((s.inbound ++ y).take ((n - 1 + 7) / 8))]
      physTap := runTap s.physTap (List.replicate (n - 1) false)
      pins := s.pins ++ readCycles false (unpackBits y (n - 1))
      inbound := (s.inbound ++ y).drop ((n - 1 + 7) / 8) } = .next t →
    t.cause ≠ .noError → exec (.shiftTdo n true out) s = .next t) ∧
  (∀ (s : State) (n : Nat) (out : BitStream) (why : WriteFailure) (d : Disturbance),
    s.inShift = true → s.tmsBuf = [] → s.tdiBuf = [] → 0 < n → n < 2 ^ 32 → s.fits (out.length + n) = true →
    s.params.portPresent = true → s.writeAnswer 0 = .failed why d →
    exec (.shiftTdo n false out) s = .next (raised (writeCause why) (.stream out)
      (undelivered (jframe s n 0x01 []) (if isShift s.physTap = true then s.physTap else ieeeState d.tap) why d s))) ∧
  (∀ (s : State) (n : Nat) (out : BitStream) (y : List Byte) (why : ReadFailure) (pending : List Byte),
    s.inShift = true → s.tmsBuf = [] → s.tdiBuf = [] → 0 < n → n < 2 ^ 32 → s.fits (out.length + n) = true →
    s.params.portPresent = true → s.writeAnswer 0 = .ok →
    s.readAnswer 0 = .failed why pending → y = nextReply ((n + 7) / 8) s →
    exec (.shiftTdo n false out) s = .next (raised (readCause why) (.stream out) { used 1 1 ((n + 7) / 8) 0 s with
      port := s.port ++ [.write (jframe s n 0x01 []), .readFailed ((n + 7) / 8) why]
      physTap := runTap s.physTap (List.replicate n false)
      pins := s.pins ++ readCycles false (unpackBits y n)
      inbound := pending })) ∧
  (∀ (s : State) (out : BitStream) (why : WriteFailure) (d : Disturbance),
    s.inShift = true → s.tmsBuf = [] → s.tdiBuf = [] → s.fits (out.length + 1) = true →
    s.params.portPresent = true → s.writeAnswer 0 = .failed why d →
    exec (.shiftTdo 1 true out) s = .next (raised (writeCause why) (.stream out)
      (undelivered (jframe s 1 0x05 []) (ieeeState d.tap) why d { s with tapState := nextTap s.tapState true }))) ∧
  (∀ (s : State) (out : BitStream) (z : Byte) (why : ReadFailure) (pending : List Byte),
    s.inShift = true → s.tmsBuf = [] → s.tdiBuf = [] → s.fits (out.length + 1) = true →
    s.params.portPresent = true → s.writeAnswer 0 = .ok → s.readAnswer 0 = .failed why pending →
    z = s.replyByte 0 →
    exec (.shiftTdo 1 true out) s = .next (raised (readCause why) (.stream out) { used 1 1 1 0 s with
      tapState := nextTap s.tapState true
      port := s.port ++ [.write (jframe s 1 0x05 []), .readFailed 1 why]
      physTap := nextTap s.physTap true
      pins := s.pins ++ readCycles true [z.getLsbD 0]
      inbound := pending }))

/-- 43_jtag_ops.md section of R240, under the premise of a clean port (log entry 8): the frame, the echo and its check
(decision D19); the failed write and the failed read (20_memory.md sections of R62 and R63, 10_state.md section of R38; log
entries 12 and 14); the preconditions (decision D22; that a refusal leaves the target: log entry 15, DEDUCED). `TAPSTATE` is unchanged; the target stays where the spec gives the pulses a meaning for it,
in `RTI` with TMS low (70_reset_and_hazards.md section of R339), and is in a free state otherwise (93 U15, log entry
16). -/
def Obligations.RunTestResult : Prop :=
  (∀ (s : State) (n : Nat) (y : List Byte),
    n < 2 ^ 32 → s.tmsBuf = [] → s.tdiBuf = [] → s.params.portPresent = true → s.writeAnswer 0 = .ok →
    y = nextReply 5 s →
    ∃ tap : TapState, tap ≠ .inv ∧
      (s.tapState = .rti → s.physTap = .rti → s.params.runtestTmsLevel = false → tap = .rti) ∧
      (s.cleanPort → s.readAnswer 0 = .ok → y.head? = some s.params.runtestCmd →
        exec (.runTest n) s = .next { used 1 1 5 1 s with
          cause := .noError
          result := .none
          port := s.port ++ [.write (rframe s n), .read 5 y]
          physTap := tap
          pins := s.pins ++ [.pulses n s.params.runtestTmsLevel] }) ∧
      (s.cleanPort → s.readAnswer 0 = .ok → y.head? ≠ some s.params.runtestCmd →
        exec (.runTest n) s = .next { used 1 1 5 1 s with
          cause := .echoMismatch
          err := maxSeverity s.err .major
          result := .none
          port := s.port ++ [.write (rframe s n), .read 5 y]
          physTap := tap
          pins := s.pins ++ [.pulses n s.params.runtestTmsLevel] }) ∧
      (∀ (why : ReadFailure) (pending : List Byte), s.readAnswer 0 = .failed why pending →
        exec (.runTest n) s = .next (raised (readCause why) .none { used 1 1 5 1 s with
          port := s.port ++ [.write (rframe s n), .readFailed 5 why]
          physTap := tap
          pins := s.pins ++ [.pulses n s.params.runtestTmsLevel]
          inbound := pending }))) ∧
  (∀ (s : State) (n : Nat) (why : WriteFailure) (d : Disturbance),
    n < 2 ^ 32 → s.tmsBuf = [] → s.tdiBuf = [] → s.params.portPresent = true → s.writeAnswer 0 = .failed why d →
    ∃ tap : TapState, tap ≠ .inv ∧
      (s.tapState = .rti → s.physTap = .rti → s.params.runtestTmsLevel = false → tap = .rti) ∧
      exec (.runTest n) s = .next (raised (writeCause why) .none (undelivered (rframe s n) tap why d s))) ∧
  (∀ (s : State) (n : Nat),
    (2 ^ 32 ≤ n → exec (.runTest n) s = .next (violated .lenOverflow .none s)) ∧
    (n < 2 ^ 32 → s.tmsBuf ≠ [] → exec (.runTest n) s = .next (violated .tmsNotEmpty .none s)) ∧
    (n < 2 ^ 32 → s.tmsBuf = [] → s.tdiBuf ≠ [] → exec (.runTest n) s = .next (violated .tdiNotEmpty .none s)))

/-- 20_memory.md section of R64, the spec's decision D29: with no port an operation that reaches a transfer ends as
`NullPort`, and nothing is transferred by any operation. That the target, the pins and the pending bytes are as before is
none of these rules: 93 U14 says 'any value' of the target after such a status, and the model infers from 30_encoding.md
R100 (no frame, no TCK cycle) that nothing behind the port moves, log entry 15 (DEDUCED). -/
def Obligations.AbsentPortIsNullPort : Prop :=
  (∀ (s t : State) (i : Instr), s.params.portPresent = false → isRequest i = true → exec i s = .next t →
    t.port = s.port ∧ t.physTap = s.physTap ∧ t.pins = s.pins ∧ t.inbound = s.inbound) ∧
  (∀ s : State, s.params.portPresent = false → 0 < s.tmsBuf.length + s.tdiBuf.length →
    ¬ countTooLong s.tmsBuf.length s.tdiBuf.length →
    s.tdiBuf = [] ∨ s.tmsBuf.length ≤ 1 ∨ s.tmsBuf.length = s.tdiBuf.length →
    exec .flush s = .next (raised .nullPort .none s)) ∧
  (∀ s : State, s.params.portPresent = false → s.fits (s.tmsBuf.length + 5) = true →
    ¬ countTooLong (s.tmsBuf.length + 5) s.tdiBuf.length →
    s.tdiBuf = [] ∨ s.tmsBuf.length + 5 = s.tdiBuf.length →
    exec .resetTap s = .next (raised .nullPort .none { s with tapState := .tlr })) ∧
  (∀ (s : State) (targets : List TapState), s.params.portPresent = false → s.tapState ≠ .inv →
    walkOk s.tapState targets = true → s.fits (s.tmsBuf.length + targets.length) = true →
    0 < s.tmsBuf.length + targets.length + s.tdiBuf.length →
    ¬ countTooLong (s.tmsBuf.length + targets.length) s.tdiBuf.length →
    s.tdiBuf = [] ∨ s.tmsBuf.length + targets.length ≤ 1 ∨ s.tmsBuf.length + targets.length = s.tdiBuf.length →
    exec (.goThruStates targets) s =
      .next (raised .nullPort .none { s with tapState := targets.getLastD s.tapState })) ∧
  (∀ (s : State) (bits : BitStream) (exitShift : Bool), s.params.portPresent = false → s.inShift = true →
    s.tmsBuf = [] → s.fits (s.tdiBuf.length + bits.length) = true → (exitShift = true → s.fits 1 = true) →
    s.tdiBuf.length + bits.length < 2 ^ 32 + (if exitShift then 1 else 0) →
    exitShift = true ∨ 0 < s.tdiBuf.length + bits.length →
    exec (.shiftTdi bits exitShift true) s = .next (raised .nullPort .none { s with
      tapState := if exitShift then nextTap s.tapState true else s.tapState })) ∧
  (∀ (s : State) (n : Nat) (out : BitStream), s.params.portPresent = false → s.inShift = true → s.tmsBuf = [] →
    s.tdiBuf = [] → 0 < n → n < 2 ^ 32 → s.fits (out.length + n) = true →
    exec (.shiftTdo n false out) s = .next (raised .nullPort (.stream out) s) ∧
    exec (.shiftTdo n true out) s = .next (raised .nullPort (.stream out) { s with
      tapState := if n = 1 then nextTap s.tapState true else s.tapState })) ∧
  (∀ (s : State) (n : Nat), s.params.portPresent = false → s.tmsBuf = [] → s.tdiBuf = [] → n < 2 ^ 32 →
    exec (.runTest n) s = .next (raised .nullPort .none s))

/-- 60_exceptions.md sections of R281, R290 and R291 (the spec's decisions D19 and D21): an operation that ends with an error
other than a contract violation leaves both buffers empty; the failed write of a flush that writes one frame is raised
with its own cause, and what the target did with it is the world's (log entry 14). The failed transfers of the other
operations are in `FlushSplitResult`, `FailedShiftTdoKeepsOut` and `RunTestResult`. -/
def Obligations.ErrorExitEmptiesBuffers : Prop :=
  (∀ (s t : State) (i : Instr), isRequest i = true → exec i s = .next t → t.cause ≠ .noError →
    isViolation t.cause = false → t.tmsBuf = [] ∧ t.tdiBuf = []) ∧
  (∀ (s : State) (why : WriteFailure) (d : Disturbance), s.params.portPresent = true → s.writeAnswer 0 = .failed why d →
    (0 < s.tmsBuf.length → s.tmsBuf.length < 2 ^ 32 → s.tdiBuf = [] →
      exec .flush s = .next (raised (writeCause why) .none
        (undelivered (jframe s s.tmsBuf.length 0x02 (packBits s.tmsBuf)) (ieeeState d.tap) why d s))) ∧
    (s.tmsBuf = [] → 0 < s.tdiBuf.length → s.tdiBuf.length < 2 ^ 32 →
      exec .flush s = .next (raised (writeCause why) .none
        (undelivered (jframe s s.tdiBuf.length 0x08 (packBits s.tdiBuf)) (ieeeState d.tap) why d s))) ∧
    (0 < s.tmsBuf.length → s.tmsBuf.length < 2 ^ 32 → s.tmsBuf.length = s.tdiBuf.length →
      exec .flush s = .next (raised (writeCause why) .none
        (undelivered (jframe s s.tmsBuf.length 0x0A (interleaveBytes (packBits s.tmsBuf) (packBits s.tdiBuf)))
          (ieeeState d.tap) why d s))))

/-- 30_encoding.md section of R100, which the spec marks derived: what each J-frame asks of the pins, cycle by cycle, one
table step of the target per cycle, and the reply bytes it leaves in the port; last, the same of a presented J-frame with
any of the flags R94 names (R103 (b), log entry 22). No field of the engine changes. That the device acts at once is log
entry 13, the table is log entry 7; that it takes a presented frame with `PORT_PRESENT` false too is log entry 30, the
model's choice. -/
def Obligations.JframesDrivePins : Prop :=
  (∀ (s : State) (len : BitVec 32) (payload : List Byte),
    exec (.jframePutTms len payload) s = .next { s with
      pins := s.pins ++ (List.range len.toNat).map fun t => .cycle (bitAt payload t) false none
      physTap := runTap s.physTap ((List.range len.toNat).map (bitAt payload)) } ∧
    exec (.jframePutTdi len payload) s = .next { s with
      pins := s.pins ++ (List.range len.toNat).map fun t => .cycle false (bitAt payload t) none
      physTap := runTap s.physTap (List.replicate len.toNat false) } ∧
    exec (.jframePutTmsTdi len payload) s = .next { s with
      pins := s.pins ++ (List.range len.toNat).map fun t =>
        .cycle (bitAt (evenBytes payload) t) (bitAt (oddBytes payload) t) none
      physTap := runTap s.physTap ((List.range len.toNat).map (bitAt (evenBytes payload))) }) ∧
  (∀ (s : State) (len : BitVec 32) (y : List Byte), y = nextReply ((len.toNat + 7) / 8) s →
    exec (.jframeGetTdo len) s = .next { used 0 0 ((len.toNat + 7) / 8) 0 s with
      pins := s.pins ++ readCycles false (unpackBits y len.toNat)
      physTap := runTap s.physTap (List.replicate len.toNat false)
      inbound := s.inbound ++ y } ∧
    exec (.jframeGetTdoExit len) s = .next { used 0 0 ((len.toNat + 7) / 8) 0 s with
      pins := s.pins ++ readCycles true (unpackBits y len.toNat)
      physTap := runTap s.physTap (List.replicate len.toNat true)
      inbound := s.inbound ++ y }) ∧
  (∀ (s : State) (len : BitVec 32) (flags : Byte) (payload : List Byte) (rest : List Input) (k : Nat),
    s.inputs = .frame (jframe s len.toNat flags payload) :: rest → flags.toNat < 32 → 1 ≤ len.toNat →
    payload.length = (if flags.getLsbD 1 then (len.toNat + 7) / 8 else 0) +
      (if flags.getLsbD 3 then (len.toNat + 7) / 8 else 0) →
    k = (if flags.getLsbD 0 then (len.toNat + 7) / 8 else 0) →
    ∃ (tms tdi : Nat → Bool) (tdo : Nat → Option Bool),
      (∀ t, t < len.toNat →
        (tms t = if flags.getLsbD 1 then bitAt (if flags.getLsbD 3 then evenBytes payload else payload) t
          else flags.getLsbD 2) ∧
        (tdi t = if flags.getLsbD 3 then bitAt (if flags.getLsbD 1 then oddBytes payload else payload) t
          else flags.getLsbD 4) ∧
        (tdo t = if flags.getLsbD 0 then some (bitAt (nextReply k s) t) else none)) ∧
      step s = .next { used 0 0 k 0 s with
        inputs := rest
        pins := s.pins ++ (List.range len.toNat).map fun t => .cycle (tms t) (tdi t) (tdo t)
        physTap := runTap s.physTap ((List.range len.toNat).map tms)
        inbound := s.inbound ++ nextReply k s })

/-- 30_encoding.md sections of R98 and R101: an R-frame pulses TCK `n` times and five bytes come back; in `RTI` with TMS low
the target stays (70_reset_and_hazards.md section of R339, decision D22), and otherwise it is in a free state (93 U15,
log entry 16). That the device acts at once is log entry 13; that it takes a presented frame with `PORT_PRESENT` false too
is log entry 30, the model's choice. -/
def Obligations.RframePulsesAndEchoes : Prop :=
  ∀ (s : State) (n : BitVec 32) (y : List Byte), y = nextReply 5 s →
    y.length = 5 ∧
    ∃ tap : TapState, tap ≠ .inv ∧
      (s.tapState = .rti → s.physTap = .rti → s.params.runtestTmsLevel = false → tap = .rti) ∧
      exec (.rframe n) s = .next { used 0 0 5 1 s with
        pins := s.pins ++ [.pulses n.toNat s.params.runtestTmsLevel]
        physTap := tap
        inbound := s.inbound ++ y }

/-- 60_exceptions.md R289: `ERR` becomes the maximum of itself and the status of the operation, and is never lowered. -/
def Obligations.ErrKeepsMaximum : Prop :=
  ∀ (s t : State) (i : Instr), isRequest i = true → exec i s = .next t →
    t.err = maxSeverity s.err t.status ∧
      severityCode t.err = max (severityCode s.err) (severityCode t.status)

/-- 60_exceptions.md section of R286, the spec's decision D17: an operation that ends as a contract violation changes
nothing but `ERR` and the response, and a refused `shift_tdo` gives `out` back (decision D31). That the target and the pins
stay too, of which 93 U14 says 'any value', is log entry 15 (DEDUCED). -/
def Obligations.ViolationChangesOnlyErr : Prop :=
  ∀ (s t : State) (i : Instr) (k : Check), isRequest i = true → exec i s = .next t →
    t.cause = .contractViolation k → t = violated k (refusedResult i) s

/-- 60_exceptions.md section of R282, which the spec marks derived: which operation can end with which cause. -/
def Obligations.CausesOfEachOperation : Prop :=
  ∀ (s t : State) (i : Instr), isRequest i = true → exec i s = .next t → isViolation t.cause = false →
    (isPure i = true → t.cause = .noError) ∧
    (i = .flush ∨ i = .resetTap ∨ (∃ targets, i = .goThruStates targets) ∨ (∃ bits e f, i = .shiftTdi bits e f) →
      t.cause ∈ [Cause.noError, .timeout, .shortWrite, .lengthMismatch, .nullPort, .noHandle]) ∧
    ((∃ bits e, i = .shiftTdi bits e false) → t.cause = .noError) ∧
    ((∃ n e out, i = .shiftTdo n e out) →
      t.cause ∈ [Cause.noError, .timeout, .shortWrite, .shortRead, .nullPort, .noHandle]) ∧
    ((∃ n, i = .runTest n) →
      t.cause ∈ [Cause.noError, .timeout, .shortWrite, .shortRead, .echoMismatch, .nullPort, .noHandle])

/-- 10_state.md section of R33, and 40_bitstream.md section of R130 (log entry 9 for `ERR` after a refused bit FIFO call):
what each group of instructions leaves alone; and 10_state.md section of R38: where no reply byte is pending, none is after
an operation that completed with None (that the device returns exactly what it owes is log entry 13). -/
def Obligations.FramesOfInstructions : Prop :=
  ∀ (s t : State) (i : Instr), exec i s = .next t →
    (t.params = s.params ∧ t.inputs = s.inputs) ∧
    (isPure i = true → t = { s with cause := t.cause, result := t.result, err := t.err }) ∧
    (isRequest i = true → t.cause = .noError → s.cleanPort → t.cleanPort) ∧
    (i = .flush → t.tapState = s.tapState) ∧
    ((∃ n, i = .runTest n) → t.tapState = s.tapState ∧ t.tmsBuf = s.tmsBuf ∧ t.tdiBuf = s.tdiBuf) ∧
    ((∃ bits f, i = .shiftTdi bits false f) → t.tapState = s.tapState) ∧
    ((∃ n e out, i = .shiftTdo n e out) → t.tmsBuf = s.tmsBuf ∧ t.tdiBuf = s.tdiBuf) ∧
    ((∃ n out, i = .shiftTdo n false out) → t.tapState = s.tapState) ∧
    (isRequest i = false → t.tapState = s.tapState ∧ t.tmsBuf = s.tmsBuf ∧ t.tdiBuf = s.tdiBuf ∧ t.err = s.err ∧
      t.cause = s.cause ∧ t.result = s.result ∧ t.port = s.port)

/-- 30_encoding.md sections of R93, R95 and R99, 20_memory.md sections of R61 and R71, 70_reset_and_hazards.md section of
R345: what an operation adds to the port's traffic is at most so many transfers, and every byte sequence it writes is the
whole encoding of one well-formed frame of the table. -/
def Obligations.WrittenFramesAreWellFormed : Prop :=
  ∀ (s t : State) (i : Instr), exec i s = .next t →
    ∃ made : List Transaction, t.port = s.port ++ made ∧ made.length ≤ mostTransfers i ∧
      ∀ (bytes : List Byte) (why : WriteFailure), .write bytes ∈ made ∨ .writeFailed bytes why ∈ made →
        ∃ f : Instr, isRequest f = false ∧ f.wellFormed = true ∧ encode s.params f = .frame bytes

/-- 10_state.md sections of R30 and R34, 00_scope.md section of R7: what every step keeps, from every state that has it.
The target being in one of the sixteen states is the model's reading of 10_state.md R37. -/
def Obligations.StepKeepsInvariant : Prop :=
  ∀ s t : State, s.Inv → step s = .next t → t.Inv

/-- 10_state.md section of R40, 70_reset_and_hazards.md section of R320 (the spec's decisions D7, D20 and D21; log entries 1
and 2 for the fields the spec gives no value): the state after reset, which has the invariant. -/
def Obligations.ResetStateAndInvariant : Prop :=
  State.reset.tapState = .inv ∧ State.reset.tmsBuf = [] ∧ State.reset.tdiBuf = [] ∧ State.reset.err = .none ∧
  State.reset.port = [] ∧ State.reset.cleanPort ∧ State.reset.params = configured ∧ State.reset.Inv

/-- 10_state.md section of R37, the model's inference from it, with log entries 7 and 13 for the target's motion: when the
replica agrees with the target (counting queued bits) it still does after every operation that completed with None or
was refused; a `reset_tap` that completed with None brings the two together from any state (70_reset_and_hazards.md
section of R325); and they agree after a failed read that did not step the replica (section of R336, log entry 14).
`run_test` is under the premise of R339, `TAPSTATE = RTI` with TMS low (log entry 16). That a refused operation leaves the
target is log entry 15 (DEDUCED). -/
def Obligations.ReplicaTracksTarget : Prop :=
  (∀ (s t : State) (i : Instr), s.tracks → s.physTap ≠ .inv → isRequest i = true → exec i s = .next t →
    t.cause = .noError ∨ isViolation t.cause = true →
    ((∃ n, i = .runTest n) → s.tapState = .rti ∧ s.params.runtestTmsLevel = false) → t.tracks ∧ t.physTap ≠ .inv) ∧
  (∀ s t : State, s.physTap ≠ .inv → exec .resetTap s = .next t → t.cause = .noError →
    t.tracks ∧ t.physTap = .tlr ∧ t.tapState = .tlr) ∧
  (∀ (s t : State) (n : Nat) (exitShift : Bool) (out : BitStream), s.tracks →
    exec (.shiftTdo n exitShift out) s = .next t → exitShift = false ∨ t.tapState = s.tapState → t.tracks) ∧
  (∀ (s t : State) (n : Nat), s.tracks → s.tapState = .rti → s.params.runtestTmsLevel = false →
    exec (.runTest n) s = .next t → t.tracks)

/-- 43_jtag_ops.md section of R245, which the spec marks derived: the document's post-conditions. -/
def Obligations.PostConditions : Prop :=
  ∀ s t : State,
    (exec .flush s = .next t → isViolation t.cause = false → t.tmsBuf = [] ∧ t.tdiBuf = []) ∧
    (∀ bits f, exec (.shiftTdi bits true f) s = .next t → isViolation t.cause = false → isShift t.tapState = false) ∧
    (∀ n out, exec (.shiftTdo n true out) s = .next t → t.cause = .noError → isShift t.tapState = false) ∧
    (exec .resetTap s = .next t → isViolation t.cause = false → t.tapState = .tlr) ∧
    (∀ targets, exec (.goThruStates targets) s = .next t → isViolation t.cause = false →
      t.tapState = targets.getLastD s.tapState ∧ t.tmsBuf = [])
end

