-- ==== Sys2Proof/Laws/Operands.lean ====
section
/-! SUPPORT. The small lemmas of the operand functions: lengths, positions, values, and the TAP tables. -/

namespace Sys2Proof.Machine

theorem length_bitsOf (k v : Nat) : (bitsOf k v).length = k := by simp [bitsOf]

theorem getElem_bitsOf (k v i : Nat) (h : i < (bitsOf k v).length) : (bitsOf k v)[i] = v.testBit i := by
  simp [bitsOf]

theorem length_window (s : BitStream) (a b : Nat) (h : b ≤ s.length) : (window s a b).length = b - a := by
  simp [window]; omega

theorem length_topBits (s : BitStream) (k : Nat) (h : k ≤ s.length) : (topBits s k).length = k := by
  simp [topBits]; omega

theorem length_belowTop (s : BitStream) (k : Nat) : (belowTop s k).length = s.length - k := by
  simp [belowTop]

theorem belowTop_append_topBits (s : BitStream) (k : Nat) : belowTop s k ++ topBits s k = s :=
  List.take_append_drop _ _

theorem length_packBits (s : BitStream) : (packBits s).length = ceil8 s.length := by simp [packBits]

theorem length_unpackBits (y : List Byte) (n : Nat) : (unpackBits y n).length = n := by simp [unpackBits]

theorem getElem_unpackBits (y : List Byte) (n t : Nat) (h : t < (unpackBits y n).length) :
    (unpackBits y n)[t] = bitAt y t := by
  simp [unpackBits]

theorem length_interleaveBytes (a b : List Byte) (h : a.length = b.length) :
    (interleaveBytes a b).length = 2 * a.length := by
  induction a generalizing b with
  | nil => simp [interleaveBytes]
  | cons x a ih =>
    cases b with
    | nil => simp at h
    | cons y b =>
      have := ih b (by simpa using h)
      simp only [interleaveBytes, List.zip_cons_cons, List.flatMap_cons, List.length_append, List.length_cons,
        List.length_nil] at this ⊢
      omega

/-- The first eight bits of a stream are the first byte of its packing. -/
theorem packBits_byte (a b : BitStream) (h : a.length = 8) : packBits (a ++ b) = byteOf a :: packBits b := by
  have hc : ceil8 (a ++ b).length = ceil8 b.length + 1 := by simp [ceil8, h]; omega
  simp only [packBits, hc, List.range_succ_eq_map, List.map_cons, List.map_map]
  refine congrArg₂ List.cons ?_ (List.map_congr_left fun i _ => ?_)
  · simp [byteOf, h, List.take_of_length_le (show a.length ≤ 8 by omega)]
  · have : 8 * (i + 1) = a.length + 8 * i := by omega
    simp [this, List.drop_append, List.drop_eq_nil_of_le]

theorem val_append (a b : BitStream) : val (a ++ b) = val a + 2 ^ a.length * val b := by
  induction a with
  | nil => simp [val]
  | cons x a ih => simp only [List.cons_append, val, ih, List.length_cons, Nat.pow_succ]; ring

theorem val_lt (s : BitStream) : val s < 2 ^ s.length := by
  induction s with
  | nil => simp [val]
  | cons b s ih =>
    simp only [val, List.length_cons, Nat.pow_succ]
    cases b <;> simp [bitVal] <;> omega

theorem testBit_val (s : BitStream) (i : Nat) : (val s).testBit i = s.getD i false := by
  induction s generalizing i with
  | nil => simp [val]
  | cons b s ih =>
    cases i with
    | zero => cases b <;> simp [val, bitVal]
    | succ i =>
      have : val (b :: s) / 2 = val s := by cases b <;> (simp [val, bitVal]; try omega)
      simp [Nat.testBit_succ, this, ih]

theorem runTap_append (s : TapState) (a b : BitStream) : runTap s (a ++ b) = runTap (runTap s a) b := by
  simp [runTap]

theorem nextTap_isIeee (s : TapState) (t : Bool) : isIeee (nextTap s t) = isIeee s := by
  cases s <;> cases t <;> rfl

theorem runTap_isIeee (s : TapState) (bits : BitStream) : isIeee (runTap s bits) = isIeee s := by
  induction bits generalizing s with
  | nil => rfl
  | cons b bits ih => exact (ih (nextTap s b)).trans (nextTap_isIeee s b)

theorem ieeeState_isIeee (c : Fin 16) : isIeee (ieeeState c) = true := by
  revert c; decide

theorem isShift_next_false (s : TapState) (h : isShift s = true) : nextTap s false = s := by
  cases s <;> first | rfl | exact absurd h (by decide)

theorem runTap_hold (s : TapState) (h : isShift s = true) (n : Nat) : runTap s (List.replicate n false) = s := by
  induction n with
  | zero => rfl
  | succ n ih => simp only [List.replicate_succ, runTap, List.foldl_cons, isShift_next_false s h]; exact ih

theorem hopBit_next (c t : TapState) (b : Bool) (h : hopBit c t = some b) : nextTap c b = t := by
  unfold hopBit at h
  split at h
  · cases h; assumption
  · split at h
    · cases h; assumption
    · cases h

/-- A checked walk has one bit per target, and the bits lead to its last target. -/
theorem walkBits_spec (c : TapState) (targets : List TapState) (bits : BitStream)
    (h : walkBits c targets = some bits) :
    bits.length = targets.length ∧ runTap c bits = targets.getLastD c := by
  induction targets generalizing c bits with
  | nil => cases h; exact ⟨rfl, rfl⟩
  | cons t rest ih =>
    simp only [walkBits] at h
    split at h
    · rename_i b bs hb hbs
      cases h
      obtain ⟨hlen, hrun⟩ := ih t bs hbs
      refine ⟨by simp [hlen], ?_⟩
      have hrest : (t :: rest).getLastD c = rest.getLastD t := by cases rest <;> rfl
      rw [hrest, ← hrun, ← hopBit_next c t b hb]
      rfl
    · cases h

end Sys2Proof.Machine
end

