-- ==== Sys2Proof/Laws/State.lean ====
section
/-! SUPPORT. Every field of the state after every named update of it. -/

namespace Sys2Proof.Machine

open Sys2Proof.Config

@[simp] theorem complete_params (c : Cause) (r : Result) (s : State) :
    (complete c r s).params = s.params := rfl
@[simp] theorem complete_tapState (c : Cause) (r : Result) (s : State) :
    (complete c r s).tapState = s.tapState := rfl
@[simp] theorem complete_tmsBuf (c : Cause) (r : Result) (s : State) :
    (complete c r s).tmsBuf = s.tmsBuf := rfl
@[simp] theorem complete_tdiBuf (c : Cause) (r : Result) (s : State) :
    (complete c r s).tdiBuf = s.tdiBuf := rfl
@[simp] theorem complete_err (c : Cause) (r : Result) (s : State) :
    (complete c r s).err = maxSeverity s.err (causeSeverity c) := rfl
@[simp] theorem complete_cause (c : Cause) (r : Result) (s : State) :
    (complete c r s).cause = c := rfl
@[simp] theorem complete_result (c : Cause) (r : Result) (s : State) :
    (complete c r s).result = r := rfl
@[simp] theorem complete_port (c : Cause) (r : Result) (s : State) :
    (complete c r s).port = s.port := rfl
@[simp] theorem complete_inbound (c : Cause) (r : Result) (s : State) :
    (complete c r s).inbound = s.inbound := rfl
@[simp] theorem complete_physTap (c : Cause) (r : Result) (s : State) :
    (complete c r s).physTap = s.physTap := rfl
@[simp] theorem complete_pins (c : Cause) (r : Result) (s : State) :
    (complete c r s).pins = s.pins := rfl
@[simp] theorem complete_inputs (c : Cause) (r : Result) (s : State) :
    (complete c r s).inputs = s.inputs := rfl
@[simp] theorem complete_writeAnswers (c : Cause) (r : Result) (s : State) :
    (complete c r s).writeAnswers = s.writeAnswers := rfl
@[simp] theorem complete_readAnswers (c : Cause) (r : Result) (s : State) :
    (complete c r s).readAnswers = s.readAnswers := rfl
@[simp] theorem complete_replyBytes (c : Cause) (r : Result) (s : State) :
    (complete c r s).replyBytes = s.replyBytes := rfl
@[simp] theorem complete_writeCount (c : Cause) (r : Result) (s : State) :
    (complete c r s).writeCount = s.writeCount := rfl
@[simp] theorem complete_readCount (c : Cause) (r : Result) (s : State) :
    (complete c r s).readCount = s.readCount := rfl
@[simp] theorem complete_replyCount (c : Cause) (r : Result) (s : State) :
    (complete c r s).replyCount = s.replyCount := rfl
@[simp] theorem complete_tapCount (c : Cause) (r : Result) (s : State) :
    (complete c r s).tapCount = s.tapCount := rfl

@[simp] theorem raise_params (c : Cause) (r : Result) (s : State) :
    (raise c r s).params = s.params := rfl
@[simp] theorem raise_tapState (c : Cause) (r : Result) (s : State) :
    (raise c r s).tapState = s.tapState := rfl
@[simp] theorem raise_tmsBuf (c : Cause) (r : Result) (s : State) :
    (raise c r s).tmsBuf = [] := rfl
@[simp] theorem raise_tdiBuf (c : Cause) (r : Result) (s : State) :
    (raise c r s).tdiBuf = [] := rfl
@[simp] theorem raise_err (c : Cause) (r : Result) (s : State) :
    (raise c r s).err = maxSeverity s.err (causeSeverity c) := rfl
@[simp] theorem raise_cause (c : Cause) (r : Result) (s : State) :
    (raise c r s).cause = c := rfl
@[simp] theorem raise_result (c : Cause) (r : Result) (s : State) :
    (raise c r s).result = r := rfl
@[simp] theorem raise_port (c : Cause) (r : Result) (s : State) :
    (raise c r s).port = s.port := rfl
@[simp] theorem raise_inbound (c : Cause) (r : Result) (s : State) :
    (raise c r s).inbound = s.inbound := rfl
@[simp] theorem raise_physTap (c : Cause) (r : Result) (s : State) :
    (raise c r s).physTap = s.physTap := rfl
@[simp] theorem raise_pins (c : Cause) (r : Result) (s : State) :
    (raise c r s).pins = s.pins := rfl
@[simp] theorem raise_inputs (c : Cause) (r : Result) (s : State) :
    (raise c r s).inputs = s.inputs := rfl
@[simp] theorem raise_writeAnswers (c : Cause) (r : Result) (s : State) :
    (raise c r s).writeAnswers = s.writeAnswers := rfl
@[simp] theorem raise_readAnswers (c : Cause) (r : Result) (s : State) :
    (raise c r s).readAnswers = s.readAnswers := rfl
@[simp] theorem raise_replyBytes (c : Cause) (r : Result) (s : State) :
    (raise c r s).replyBytes = s.replyBytes := rfl
@[simp] theorem raise_writeCount (c : Cause) (r : Result) (s : State) :
    (raise c r s).writeCount = s.writeCount := rfl
@[simp] theorem raise_readCount (c : Cause) (r : Result) (s : State) :
    (raise c r s).readCount = s.readCount := rfl
@[simp] theorem raise_replyCount (c : Cause) (r : Result) (s : State) :
    (raise c r s).replyCount = s.replyCount := rfl
@[simp] theorem raise_tapCount (c : Cause) (r : Result) (s : State) :
    (raise c r s).tapCount = s.tapCount := rfl

@[simp] theorem violate_params (k : Check) (r : Result) (s : State) :
    (violate k r s).params = s.params := rfl
@[simp] theorem violate_tapState (k : Check) (r : Result) (s : State) :
    (violate k r s).tapState = s.tapState := rfl
@[simp] theorem violate_tmsBuf (k : Check) (r : Result) (s : State) :
    (violate k r s).tmsBuf = s.tmsBuf := rfl
@[simp] theorem violate_tdiBuf (k : Check) (r : Result) (s : State) :
    (violate k r s).tdiBuf = s.tdiBuf := rfl
@[simp] theorem violate_err (k : Check) (r : Result) (s : State) :
    (violate k r s).err = maxSeverity s.err .fatal := rfl
@[simp] theorem violate_cause (k : Check) (r : Result) (s : State) :
    (violate k r s).cause = .contractViolation k := rfl
@[simp] theorem violate_result (k : Check) (r : Result) (s : State) :
    (violate k r s).result = r := rfl
@[simp] theorem violate_port (k : Check) (r : Result) (s : State) :
    (violate k r s).port = s.port := rfl
@[simp] theorem violate_inbound (k : Check) (r : Result) (s : State) :
    (violate k r s).inbound = s.inbound := rfl
@[simp] theorem violate_physTap (k : Check) (r : Result) (s : State) :
    (violate k r s).physTap = s.physTap := rfl
@[simp] theorem violate_pins (k : Check) (r : Result) (s : State) :
    (violate k r s).pins = s.pins := rfl
@[simp] theorem violate_inputs (k : Check) (r : Result) (s : State) :
    (violate k r s).inputs = s.inputs := rfl
@[simp] theorem violate_writeAnswers (k : Check) (r : Result) (s : State) :
    (violate k r s).writeAnswers = s.writeAnswers := rfl
@[simp] theorem violate_readAnswers (k : Check) (r : Result) (s : State) :
    (violate k r s).readAnswers = s.readAnswers := rfl
@[simp] theorem violate_replyBytes (k : Check) (r : Result) (s : State) :
    (violate k r s).replyBytes = s.replyBytes := rfl
@[simp] theorem violate_writeCount (k : Check) (r : Result) (s : State) :
    (violate k r s).writeCount = s.writeCount := rfl
@[simp] theorem violate_readCount (k : Check) (r : Result) (s : State) :
    (violate k r s).readCount = s.readCount := rfl
@[simp] theorem violate_replyCount (k : Check) (r : Result) (s : State) :
    (violate k r s).replyCount = s.replyCount := rfl
@[simp] theorem violate_tapCount (k : Check) (r : Result) (s : State) :
    (violate k r s).tapCount = s.tapCount := rfl

@[simp] theorem recordWrite_params (t : Transaction) (s : State) :
    (recordWrite t s).params = s.params := rfl
@[simp] theorem recordWrite_tapState (t : Transaction) (s : State) :
    (recordWrite t s).tapState = s.tapState := rfl
@[simp] theorem recordWrite_tmsBuf (t : Transaction) (s : State) :
    (recordWrite t s).tmsBuf = s.tmsBuf := rfl
@[simp] theorem recordWrite_tdiBuf (t : Transaction) (s : State) :
    (recordWrite t s).tdiBuf = s.tdiBuf := rfl
@[simp] theorem recordWrite_err (t : Transaction) (s : State) :
    (recordWrite t s).err = s.err := rfl
@[simp] theorem recordWrite_cause (t : Transaction) (s : State) :
    (recordWrite t s).cause = s.cause := rfl
@[simp] theorem recordWrite_result (t : Transaction) (s : State) :
    (recordWrite t s).result = s.result := rfl
@[simp] theorem recordWrite_port (t : Transaction) (s : State) :
    (recordWrite t s).port = s.port ++ [t] := rfl
@[simp] theorem recordWrite_inbound (t : Transaction) (s : State) :
    (recordWrite t s).inbound = s.inbound := rfl
@[simp] theorem recordWrite_physTap (t : Transaction) (s : State) :
    (recordWrite t s).physTap = s.physTap := rfl
@[simp] theorem recordWrite_pins (t : Transaction) (s : State) :
    (recordWrite t s).pins = s.pins := rfl
@[simp] theorem recordWrite_inputs (t : Transaction) (s : State) :
    (recordWrite t s).inputs = s.inputs := rfl
@[simp] theorem recordWrite_writeAnswers (t : Transaction) (s : State) :
    (recordWrite t s).writeAnswers = s.writeAnswers.drop 1 := rfl
@[simp] theorem recordWrite_readAnswers (t : Transaction) (s : State) :
    (recordWrite t s).readAnswers = s.readAnswers := rfl
@[simp] theorem recordWrite_replyBytes (t : Transaction) (s : State) :
    (recordWrite t s).replyBytes = s.replyBytes := rfl
@[simp] theorem recordWrite_writeCount (t : Transaction) (s : State) :
    (recordWrite t s).writeCount = s.writeCount + 1 := rfl
@[simp] theorem recordWrite_readCount (t : Transaction) (s : State) :
    (recordWrite t s).readCount = s.readCount := rfl
@[simp] theorem recordWrite_replyCount (t : Transaction) (s : State) :
    (recordWrite t s).replyCount = s.replyCount := rfl
@[simp] theorem recordWrite_tapCount (t : Transaction) (s : State) :
    (recordWrite t s).tapCount = s.tapCount := rfl

@[simp] theorem recordRead_params (t : Transaction) (l : List Byte) (s : State) :
    (recordRead t l s).params = s.params := rfl
@[simp] theorem recordRead_tapState (t : Transaction) (l : List Byte) (s : State) :
    (recordRead t l s).tapState = s.tapState := rfl
@[simp] theorem recordRead_tmsBuf (t : Transaction) (l : List Byte) (s : State) :
    (recordRead t l s).tmsBuf = s.tmsBuf := rfl
@[simp] theorem recordRead_tdiBuf (t : Transaction) (l : List Byte) (s : State) :
    (recordRead t l s).tdiBuf = s.tdiBuf := rfl
@[simp] theorem recordRead_err (t : Transaction) (l : List Byte) (s : State) :
    (recordRead t l s).err = s.err := rfl
@[simp] theorem recordRead_cause (t : Transaction) (l : List Byte) (s : State) :
    (recordRead t l s).cause = s.cause := rfl
@[simp] theorem recordRead_result (t : Transaction) (l : List Byte) (s : State) :
    (recordRead t l s).result = s.result := rfl
@[simp] theorem recordRead_port (t : Transaction) (l : List Byte) (s : State) :
    (recordRead t l s).port = s.port ++ [t] := rfl
@[simp] theorem recordRead_inbound (t : Transaction) (l : List Byte) (s : State) :
    (recordRead t l s).inbound = l := rfl
@[simp] theorem recordRead_physTap (t : Transaction) (l : List Byte) (s : State) :
    (recordRead t l s).physTap = s.physTap := rfl
@[simp] theorem recordRead_pins (t : Transaction) (l : List Byte) (s : State) :
    (recordRead t l s).pins = s.pins := rfl
@[simp] theorem recordRead_inputs (t : Transaction) (l : List Byte) (s : State) :
    (recordRead t l s).inputs = s.inputs := rfl
@[simp] theorem recordRead_writeAnswers (t : Transaction) (l : List Byte) (s : State) :
    (recordRead t l s).writeAnswers = s.writeAnswers := rfl
@[simp] theorem recordRead_readAnswers (t : Transaction) (l : List Byte) (s : State) :
    (recordRead t l s).readAnswers = s.readAnswers.drop 1 := rfl
@[simp] theorem recordRead_replyBytes (t : Transaction) (l : List Byte) (s : State) :
    (recordRead t l s).replyBytes = s.replyBytes := rfl
@[simp] theorem recordRead_writeCount (t : Transaction) (l : List Byte) (s : State) :
    (recordRead t l s).writeCount = s.writeCount := rfl
@[simp] theorem recordRead_readCount (t : Transaction) (l : List Byte) (s : State) :
    (recordRead t l s).readCount = s.readCount + 1 := rfl
@[simp] theorem recordRead_replyCount (t : Transaction) (l : List Byte) (s : State) :
    (recordRead t l s).replyCount = s.replyCount := rfl
@[simp] theorem recordRead_tapCount (t : Transaction) (l : List Byte) (s : State) :
    (recordRead t l s).tapCount = s.tapCount := rfl

@[simp] theorem disturb_params (f : Frame) (d : Disturbance) (s : State) :
    (disturb f d s).params = s.params := rfl
@[simp] theorem disturb_tapState (f : Frame) (d : Disturbance) (s : State) :
    (disturb f d s).tapState = s.tapState := rfl
@[simp] theorem disturb_tmsBuf (f : Frame) (d : Disturbance) (s : State) :
    (disturb f d s).tmsBuf = s.tmsBuf := rfl
@[simp] theorem disturb_tdiBuf (f : Frame) (d : Disturbance) (s : State) :
    (disturb f d s).tdiBuf = s.tdiBuf := rfl
@[simp] theorem disturb_err (f : Frame) (d : Disturbance) (s : State) :
    (disturb f d s).err = s.err := rfl
@[simp] theorem disturb_cause (f : Frame) (d : Disturbance) (s : State) :
    (disturb f d s).cause = s.cause := rfl
@[simp] theorem disturb_result (f : Frame) (d : Disturbance) (s : State) :
    (disturb f d s).result = s.result := rfl
@[simp] theorem disturb_port (f : Frame) (d : Disturbance) (s : State) :
    (disturb f d s).port = s.port := rfl
@[simp] theorem disturb_inbound (f : Frame) (d : Disturbance) (s : State) :
    (disturb f d s).inbound = s.inbound ++ d.stray := rfl
@[simp] theorem disturb_physTap (f : Frame) (d : Disturbance) (s : State) :
    (disturb f d s).physTap = brokenTap f (ieeeState d.tap) s := rfl
@[simp] theorem disturb_pins (f : Frame) (d : Disturbance) (s : State) :
    (disturb f d s).pins = s.pins ++ [.unknown] := rfl
@[simp] theorem disturb_inputs (f : Frame) (d : Disturbance) (s : State) :
    (disturb f d s).inputs = s.inputs := rfl
@[simp] theorem disturb_writeAnswers (f : Frame) (d : Disturbance) (s : State) :
    (disturb f d s).writeAnswers = s.writeAnswers := rfl
@[simp] theorem disturb_readAnswers (f : Frame) (d : Disturbance) (s : State) :
    (disturb f d s).readAnswers = s.readAnswers := rfl
@[simp] theorem disturb_replyBytes (f : Frame) (d : Disturbance) (s : State) :
    (disturb f d s).replyBytes = s.replyBytes := rfl
@[simp] theorem disturb_writeCount (f : Frame) (d : Disturbance) (s : State) :
    (disturb f d s).writeCount = s.writeCount := rfl
@[simp] theorem disturb_readCount (f : Frame) (d : Disturbance) (s : State) :
    (disturb f d s).readCount = s.readCount := rfl
@[simp] theorem disturb_replyCount (f : Frame) (d : Disturbance) (s : State) :
    (disturb f d s).replyCount = s.replyCount := rfl
@[simp] theorem disturb_tapCount (f : Frame) (d : Disturbance) (s : State) :
    (disturb f d s).tapCount = s.tapCount := rfl

@[simp] theorem deviceFrame_params (f : Frame) (s : State) :
    (deviceFrame f s).params = s.params := rfl
@[simp] theorem deviceFrame_tapState (f : Frame) (s : State) :
    (deviceFrame f s).tapState = s.tapState := rfl
@[simp] theorem deviceFrame_tmsBuf (f : Frame) (s : State) :
    (deviceFrame f s).tmsBuf = s.tmsBuf := rfl
@[simp] theorem deviceFrame_tdiBuf (f : Frame) (s : State) :
    (deviceFrame f s).tdiBuf = s.tdiBuf := rfl
@[simp] theorem deviceFrame_err (f : Frame) (s : State) :
    (deviceFrame f s).err = s.err := rfl
@[simp] theorem deviceFrame_cause (f : Frame) (s : State) :
    (deviceFrame f s).cause = s.cause := rfl
@[simp] theorem deviceFrame_result (f : Frame) (s : State) :
    (deviceFrame f s).result = s.result := rfl
@[simp] theorem deviceFrame_port (f : Frame) (s : State) :
    (deviceFrame f s).port = s.port := rfl
@[simp] theorem deviceFrame_inbound (f : Frame) (s : State) :
    (deviceFrame f s).inbound = s.inbound ++ nextReply (replyLength f) s := rfl
@[simp] theorem deviceFrame_physTap (f : Frame) (s : State) :
    (deviceFrame f s).physTap = frameTap f s := rfl
@[simp] theorem deviceFrame_pins (f : Frame) (s : State) :
    (deviceFrame f s).pins = s.pins ++ framePins f (nextReply (replyLength f) s) s.params.runtestTmsLevel := rfl
@[simp] theorem deviceFrame_inputs (f : Frame) (s : State) :
    (deviceFrame f s).inputs = s.inputs := rfl
@[simp] theorem deviceFrame_writeAnswers (f : Frame) (s : State) :
    (deviceFrame f s).writeAnswers = s.writeAnswers := rfl
@[simp] theorem deviceFrame_readAnswers (f : Frame) (s : State) :
    (deviceFrame f s).readAnswers = s.readAnswers := rfl
@[simp] theorem deviceFrame_replyBytes (f : Frame) (s : State) :
    (deviceFrame f s).replyBytes = s.replyBytes.drop (replyLength f) := rfl
@[simp] theorem deviceFrame_writeCount (f : Frame) (s : State) :
    (deviceFrame f s).writeCount = s.writeCount := rfl
@[simp] theorem deviceFrame_readCount (f : Frame) (s : State) :
    (deviceFrame f s).readCount = s.readCount := rfl
@[simp] theorem deviceFrame_replyCount (f : Frame) (s : State) :
    (deviceFrame f s).replyCount = s.replyCount + replyLength f := rfl
@[simp] theorem deviceFrame_tapCount (f : Frame) (s : State) :
    (deviceFrame f s).tapCount = s.tapCount + tapDraws f := rfl

@[simp] theorem queueTms_params (s : State) (t : Bool) :
    (queueTms s t).params = s.params := rfl
@[simp] theorem queueTms_tapState (s : State) (t : Bool) :
    (queueTms s t).tapState = nextTap s.tapState t := rfl
@[simp] theorem queueTms_tmsBuf (s : State) (t : Bool) :
    (queueTms s t).tmsBuf = s.tmsBuf ++ [t] := rfl
@[simp] theorem queueTms_tdiBuf (s : State) (t : Bool) :
    (queueTms s t).tdiBuf = s.tdiBuf := rfl
@[simp] theorem queueTms_err (s : State) (t : Bool) :
    (queueTms s t).err = s.err := rfl
@[simp] theorem queueTms_cause (s : State) (t : Bool) :
    (queueTms s t).cause = s.cause := rfl
@[simp] theorem queueTms_result (s : State) (t : Bool) :
    (queueTms s t).result = s.result := rfl
@[simp] theorem queueTms_port (s : State) (t : Bool) :
    (queueTms s t).port = s.port := rfl
@[simp] theorem queueTms_inbound (s : State) (t : Bool) :
    (queueTms s t).inbound = s.inbound := rfl
@[simp] theorem queueTms_physTap (s : State) (t : Bool) :
    (queueTms s t).physTap = s.physTap := rfl
@[simp] theorem queueTms_pins (s : State) (t : Bool) :
    (queueTms s t).pins = s.pins := rfl
@[simp] theorem queueTms_inputs (s : State) (t : Bool) :
    (queueTms s t).inputs = s.inputs := rfl
@[simp] theorem queueTms_writeAnswers (s : State) (t : Bool) :
    (queueTms s t).writeAnswers = s.writeAnswers := rfl
@[simp] theorem queueTms_readAnswers (s : State) (t : Bool) :
    (queueTms s t).readAnswers = s.readAnswers := rfl
@[simp] theorem queueTms_replyBytes (s : State) (t : Bool) :
    (queueTms s t).replyBytes = s.replyBytes := rfl
@[simp] theorem queueTms_writeCount (s : State) (t : Bool) :
    (queueTms s t).writeCount = s.writeCount := rfl
@[simp] theorem queueTms_readCount (s : State) (t : Bool) :
    (queueTms s t).readCount = s.readCount := rfl
@[simp] theorem queueTms_replyCount (s : State) (t : Bool) :
    (queueTms s t).replyCount = s.replyCount := rfl
@[simp] theorem queueTms_tapCount (s : State) (t : Bool) :
    (queueTms s t).tapCount = s.tapCount := rfl

@[simp] theorem takeInput_params (s : State) :
    (takeInput s).params = s.params := rfl
@[simp] theorem takeInput_tapState (s : State) :
    (takeInput s).tapState = s.tapState := rfl
@[simp] theorem takeInput_tmsBuf (s : State) :
    (takeInput s).tmsBuf = s.tmsBuf := rfl
@[simp] theorem takeInput_tdiBuf (s : State) :
    (takeInput s).tdiBuf = s.tdiBuf := rfl
@[simp] theorem takeInput_err (s : State) :
    (takeInput s).err = s.err := rfl
@[simp] theorem takeInput_cause (s : State) :
    (takeInput s).cause = s.cause := rfl
@[simp] theorem takeInput_result (s : State) :
    (takeInput s).result = s.result := rfl
@[simp] theorem takeInput_port (s : State) :
    (takeInput s).port = s.port := rfl
@[simp] theorem takeInput_inbound (s : State) :
    (takeInput s).inbound = s.inbound := rfl
@[simp] theorem takeInput_physTap (s : State) :
    (takeInput s).physTap = s.physTap := rfl
@[simp] theorem takeInput_pins (s : State) :
    (takeInput s).pins = s.pins := rfl
@[simp] theorem takeInput_inputs (s : State) :
    (takeInput s).inputs = s.inputs.tail := rfl
@[simp] theorem takeInput_writeAnswers (s : State) :
    (takeInput s).writeAnswers = s.writeAnswers := rfl
@[simp] theorem takeInput_readAnswers (s : State) :
    (takeInput s).readAnswers = s.readAnswers := rfl
@[simp] theorem takeInput_replyBytes (s : State) :
    (takeInput s).replyBytes = s.replyBytes := rfl
@[simp] theorem takeInput_writeCount (s : State) :
    (takeInput s).writeCount = s.writeCount := rfl
@[simp] theorem takeInput_readCount (s : State) :
    (takeInput s).readCount = s.readCount := rfl
@[simp] theorem takeInput_replyCount (s : State) :
    (takeInput s).replyCount = s.replyCount := rfl
@[simp] theorem takeInput_tapCount (s : State) :
    (takeInput s).tapCount = s.tapCount := rfl

@[simp] theorem answered_params (r : Result) (s : State) :
    (answered r s).params = s.params := rfl
@[simp] theorem answered_tapState (r : Result) (s : State) :
    (answered r s).tapState = s.tapState := rfl
@[simp] theorem answered_tmsBuf (r : Result) (s : State) :
    (answered r s).tmsBuf = s.tmsBuf := rfl
@[simp] theorem answered_tdiBuf (r : Result) (s : State) :
    (answered r s).tdiBuf = s.tdiBuf := rfl
@[simp] theorem answered_err (r : Result) (s : State) :
    (answered r s).err = s.err := rfl
@[simp] theorem answered_cause (r : Result) (s : State) :
    (answered r s).cause = .noError := rfl
@[simp] theorem answered_result (r : Result) (s : State) :
    (answered r s).result = r := rfl
@[simp] theorem answered_port (r : Result) (s : State) :
    (answered r s).port = s.port := rfl
@[simp] theorem answered_inbound (r : Result) (s : State) :
    (answered r s).inbound = s.inbound := rfl
@[simp] theorem answered_physTap (r : Result) (s : State) :
    (answered r s).physTap = s.physTap := rfl
@[simp] theorem answered_pins (r : Result) (s : State) :
    (answered r s).pins = s.pins := rfl
@[simp] theorem answered_inputs (r : Result) (s : State) :
    (answered r s).inputs = s.inputs := rfl
@[simp] theorem answered_writeAnswers (r : Result) (s : State) :
    (answered r s).writeAnswers = s.writeAnswers := rfl
@[simp] theorem answered_readAnswers (r : Result) (s : State) :
    (answered r s).readAnswers = s.readAnswers := rfl
@[simp] theorem answered_replyBytes (r : Result) (s : State) :
    (answered r s).replyBytes = s.replyBytes := rfl
@[simp] theorem answered_writeCount (r : Result) (s : State) :
    (answered r s).writeCount = s.writeCount := rfl
@[simp] theorem answered_readCount (r : Result) (s : State) :
    (answered r s).readCount = s.readCount := rfl
@[simp] theorem answered_replyCount (r : Result) (s : State) :
    (answered r s).replyCount = s.replyCount := rfl
@[simp] theorem answered_tapCount (r : Result) (s : State) :
    (answered r s).tapCount = s.tapCount := rfl

@[simp] theorem violated_params (k : Check) (r : Result) (s : State) :
    (violated k r s).params = s.params := rfl
@[simp] theorem violated_tapState (k : Check) (r : Result) (s : State) :
    (violated k r s).tapState = s.tapState := rfl
@[simp] theorem violated_tmsBuf (k : Check) (r : Result) (s : State) :
    (violated k r s).tmsBuf = s.tmsBuf := rfl
@[simp] theorem violated_tdiBuf (k : Check) (r : Result) (s : State) :
    (violated k r s).tdiBuf = s.tdiBuf := rfl
@[simp] theorem violated_err (k : Check) (r : Result) (s : State) :
    (violated k r s).err = .fatal := rfl
@[simp] theorem violated_cause (k : Check) (r : Result) (s : State) :
    (violated k r s).cause = .contractViolation k := rfl
@[simp] theorem violated_result (k : Check) (r : Result) (s : State) :
    (violated k r s).result = r := rfl
@[simp] theorem violated_port (k : Check) (r : Result) (s : State) :
    (violated k r s).port = s.port := rfl
@[simp] theorem violated_inbound (k : Check) (r : Result) (s : State) :
    (violated k r s).inbound = s.inbound := rfl
@[simp] theorem violated_physTap (k : Check) (r : Result) (s : State) :
    (violated k r s).physTap = s.physTap := rfl
@[simp] theorem violated_pins (k : Check) (r : Result) (s : State) :
    (violated k r s).pins = s.pins := rfl
@[simp] theorem violated_inputs (k : Check) (r : Result) (s : State) :
    (violated k r s).inputs = s.inputs := rfl
@[simp] theorem violated_writeAnswers (k : Check) (r : Result) (s : State) :
    (violated k r s).writeAnswers = s.writeAnswers := rfl
@[simp] theorem violated_readAnswers (k : Check) (r : Result) (s : State) :
    (violated k r s).readAnswers = s.readAnswers := rfl
@[simp] theorem violated_replyBytes (k : Check) (r : Result) (s : State) :
    (violated k r s).replyBytes = s.replyBytes := rfl
@[simp] theorem violated_writeCount (k : Check) (r : Result) (s : State) :
    (violated k r s).writeCount = s.writeCount := rfl
@[simp] theorem violated_readCount (k : Check) (r : Result) (s : State) :
    (violated k r s).readCount = s.readCount := rfl
@[simp] theorem violated_replyCount (k : Check) (r : Result) (s : State) :
    (violated k r s).replyCount = s.replyCount := rfl
@[simp] theorem violated_tapCount (k : Check) (r : Result) (s : State) :
    (violated k r s).tapCount = s.tapCount := rfl

@[simp] theorem raised_params (c : Cause) (r : Result) (s : State) :
    (raised c r s).params = s.params := rfl
@[simp] theorem raised_tapState (c : Cause) (r : Result) (s : State) :
    (raised c r s).tapState = s.tapState := rfl
@[simp] theorem raised_tmsBuf (c : Cause) (r : Result) (s : State) :
    (raised c r s).tmsBuf = [] := rfl
@[simp] theorem raised_tdiBuf (c : Cause) (r : Result) (s : State) :
    (raised c r s).tdiBuf = [] := rfl
@[simp] theorem raised_err (c : Cause) (r : Result) (s : State) :
    (raised c r s).err = maxSeverity s.err (causeSeverity c) := rfl
@[simp] theorem raised_cause (c : Cause) (r : Result) (s : State) :
    (raised c r s).cause = c := rfl
@[simp] theorem raised_result (c : Cause) (r : Result) (s : State) :
    (raised c r s).result = r := rfl
@[simp] theorem raised_port (c : Cause) (r : Result) (s : State) :
    (raised c r s).port = s.port := rfl
@[simp] theorem raised_inbound (c : Cause) (r : Result) (s : State) :
    (raised c r s).inbound = s.inbound := rfl
@[simp] theorem raised_physTap (c : Cause) (r : Result) (s : State) :
    (raised c r s).physTap = s.physTap := rfl
@[simp] theorem raised_pins (c : Cause) (r : Result) (s : State) :
    (raised c r s).pins = s.pins := rfl
@[simp] theorem raised_inputs (c : Cause) (r : Result) (s : State) :
    (raised c r s).inputs = s.inputs := rfl
@[simp] theorem raised_writeAnswers (c : Cause) (r : Result) (s : State) :
    (raised c r s).writeAnswers = s.writeAnswers := rfl
@[simp] theorem raised_readAnswers (c : Cause) (r : Result) (s : State) :
    (raised c r s).readAnswers = s.readAnswers := rfl
@[simp] theorem raised_replyBytes (c : Cause) (r : Result) (s : State) :
    (raised c r s).replyBytes = s.replyBytes := rfl
@[simp] theorem raised_writeCount (c : Cause) (r : Result) (s : State) :
    (raised c r s).writeCount = s.writeCount := rfl
@[simp] theorem raised_readCount (c : Cause) (r : Result) (s : State) :
    (raised c r s).readCount = s.readCount := rfl
@[simp] theorem raised_replyCount (c : Cause) (r : Result) (s : State) :
    (raised c r s).replyCount = s.replyCount := rfl
@[simp] theorem raised_tapCount (c : Cause) (r : Result) (s : State) :
    (raised c r s).tapCount = s.tapCount := rfl

@[simp] theorem used_params (w r b k : Nat) (s : State) :
    (used w r b k s).params = s.params := rfl
@[simp] theorem used_tapState (w r b k : Nat) (s : State) :
    (used w r b k s).tapState = s.tapState := rfl
@[simp] theorem used_tmsBuf (w r b k : Nat) (s : State) :
    (used w r b k s).tmsBuf = s.tmsBuf := rfl
@[simp] theorem used_tdiBuf (w r b k : Nat) (s : State) :
    (used w r b k s).tdiBuf = s.tdiBuf := rfl
@[simp] theorem used_err (w r b k : Nat) (s : State) :
    (used w r b k s).err = s.err := rfl
@[simp] theorem used_cause (w r b k : Nat) (s : State) :
    (used w r b k s).cause = s.cause := rfl
@[simp] theorem used_result (w r b k : Nat) (s : State) :
    (used w r b k s).result = s.result := rfl
@[simp] theorem used_port (w r b k : Nat) (s : State) :
    (used w r b k s).port = s.port := rfl
@[simp] theorem used_inbound (w r b k : Nat) (s : State) :
    (used w r b k s).inbound = s.inbound := rfl
@[simp] theorem used_physTap (w r b k : Nat) (s : State) :
    (used w r b k s).physTap = s.physTap := rfl
@[simp] theorem used_pins (w r b k : Nat) (s : State) :
    (used w r b k s).pins = s.pins := rfl
@[simp] theorem used_inputs (w r b k : Nat) (s : State) :
    (used w r b k s).inputs = s.inputs := rfl
@[simp] theorem used_writeAnswers (w r b k : Nat) (s : State) :
    (used w r b k s).writeAnswers = s.writeAnswers.drop w := rfl
@[simp] theorem used_readAnswers (w r b k : Nat) (s : State) :
    (used w r b k s).readAnswers = s.readAnswers.drop r := rfl
@[simp] theorem used_replyBytes (w r b k : Nat) (s : State) :
    (used w r b k s).replyBytes = s.replyBytes.drop b := rfl
@[simp] theorem used_writeCount (w r b k : Nat) (s : State) :
    (used w r b k s).writeCount = s.writeCount + w := rfl
@[simp] theorem used_readCount (w r b k : Nat) (s : State) :
    (used w r b k s).readCount = s.readCount + r := rfl
@[simp] theorem used_replyCount (w r b k : Nat) (s : State) :
    (used w r b k s).replyCount = s.replyCount + b := rfl
@[simp] theorem used_tapCount (w r b k : Nat) (s : State) :
    (used w r b k s).tapCount = s.tapCount + k := rfl

@[simp] theorem undelivered_params (y : List Byte) (t : TapState) (why : WriteFailure) (d : Disturbance) (s : State) :
    (undelivered y t why d s).params = s.params := rfl
@[simp] theorem undelivered_tapState (y : List Byte) (t : TapState) (why : WriteFailure) (d : Disturbance) (s : State) :
    (undelivered y t why d s).tapState = s.tapState := rfl
@[simp] theorem undelivered_tmsBuf (y : List Byte) (t : TapState) (why : WriteFailure) (d : Disturbance) (s : State) :
    (undelivered y t why d s).tmsBuf = s.tmsBuf := rfl
@[simp] theorem undelivered_tdiBuf (y : List Byte) (t : TapState) (why : WriteFailure) (d : Disturbance) (s : State) :
    (undelivered y t why d s).tdiBuf = s.tdiBuf := rfl
@[simp] theorem undelivered_err (y : List Byte) (t : TapState) (why : WriteFailure) (d : Disturbance) (s : State) :
    (undelivered y t why d s).err = s.err := rfl
@[simp] theorem undelivered_cause (y : List Byte) (t : TapState) (why : WriteFailure) (d : Disturbance) (s : State) :
    (undelivered y t why d s).cause = s.cause := rfl
@[simp] theorem undelivered_result (y : List Byte) (t : TapState) (why : WriteFailure) (d : Disturbance) (s : State) :
    (undelivered y t why d s).result = s.result := rfl
@[simp] theorem undelivered_port (y : List Byte) (t : TapState) (why : WriteFailure) (d : Disturbance) (s : State) :
    (undelivered y t why d s).port = s.port ++ [.writeFailed y why] := rfl
@[simp] theorem undelivered_inbound (y : List Byte) (t : TapState) (why : WriteFailure) (d : Disturbance) (s : State) :
    (undelivered y t why d s).inbound = s.inbound ++ d.stray := rfl
@[simp] theorem undelivered_physTap (y : List Byte) (t : TapState) (why : WriteFailure) (d : Disturbance) (s : State) :
    (undelivered y t why d s).physTap = t := rfl
@[simp] theorem undelivered_pins (y : List Byte) (t : TapState) (why : WriteFailure) (d : Disturbance) (s : State) :
    (undelivered y t why d s).pins = s.pins ++ [.unknown] := rfl
@[simp] theorem undelivered_inputs (y : List Byte) (t : TapState) (why : WriteFailure) (d : Disturbance) (s : State) :
    (undelivered y t why d s).inputs = s.inputs := rfl
@[simp] theorem undelivered_writeAnswers (y : List Byte) (t : TapState) (why : WriteFailure) (d : Disturbance) (s : State) :
    (undelivered y t why d s).writeAnswers = s.writeAnswers.drop 1 := rfl
@[simp] theorem undelivered_readAnswers (y : List Byte) (t : TapState) (why : WriteFailure) (d : Disturbance) (s : State) :
    (undelivered y t why d s).readAnswers = s.readAnswers.drop 0 := rfl
@[simp] theorem undelivered_replyBytes (y : List Byte) (t : TapState) (why : WriteFailure) (d : Disturbance) (s : State) :
    (undelivered y t why d s).replyBytes = s.replyBytes.drop 0 := rfl
@[simp] theorem undelivered_writeCount (y : List Byte) (t : TapState) (why : WriteFailure) (d : Disturbance) (s : State) :
    (undelivered y t why d s).writeCount = s.writeCount + 1 := rfl
@[simp] theorem undelivered_readCount (y : List Byte) (t : TapState) (why : WriteFailure) (d : Disturbance) (s : State) :
    (undelivered y t why d s).readCount = s.readCount := rfl
@[simp] theorem undelivered_replyCount (y : List Byte) (t : TapState) (why : WriteFailure) (d : Disturbance) (s : State) :
    (undelivered y t why d s).replyCount = s.replyCount := rfl
@[simp] theorem undelivered_tapCount (y : List Byte) (t : TapState) (why : WriteFailure) (d : Disturbance) (s : State) :
    (undelivered y t why d s).tapCount = s.tapCount := rfl

end Sys2Proof.Machine
end

