-- ==== Sys2Proof/Laws/Ops.lean ====
section
/-! SUPPORT. What each shared operation can do, said once: a proof cites these and does not unfold the operation. -/

namespace Sys2Proof.Machine

open Sys2Proof.Config

@[simp] theorem maxSeverity_none (a : Severity) : maxSeverity a .none = a := by cases a <;> rfl

@[simp] theorem maxSeverity_fatal (a : Severity) : maxSeverity a .fatal = .fatal := by cases a <;> rfl

theorem maxSeverity_left (a b : Severity) : severityCode a ≤ severityCode (maxSeverity a b) := by
  cases a <;> cases b <;> decide

theorem complete_noError (r : Result) (s : State) : complete .noError r s = answered r s := by
  simp [complete, answered, causeSeverity]

theorem violate_eq (k : Check) (r : Result) (s : State) : violate k r s = violated k r s := by
  simp [violate, complete, violated, causeSeverity]

theorem raise_eq (c : Cause) (r : Result) (s : State) : raise c r s = raised c r s := rfl

theorem conclude_noError (r : Result) (s : State) : conclude .noError r s = answered r s := complete_noError r s

theorem conclude_error (c : Cause) (r : Result) (s : State) (h : c ≠ .noError) : conclude c r s = raised c r s := by
  cases c <;> first | exact absurd rfl h | rfl

theorem firstFailure_none (checks : List (Bool × Check)) :
    firstFailure checks = none ↔ ∀ c ∈ checks, c.1 = true := by
  induction checks with
  | nil => simp [firstFailure]
  | cons c rest ih => obtain ⟨b, k⟩ := c; cases b <;> simp [firstFailure, ih]

theorem firstFailure_mem (checks : List (Bool × Check)) (k : Check) (h : firstFailure checks = some k) :
    (false, k) ∈ checks := by
  induction checks with
  | nil => simp [firstFailure] at h
  | cons c rest ih =>
    obtain ⟨b, k'⟩ := c
    cases b
    · simp only [firstFailure, Option.some.injEq] at h; simp [h]
    · simp only [firstFailure] at h; exact List.mem_cons_of_mem _ (ih h)

/-- A guarded operation either runs, all its checks holding, or is the contract violation of a check that fails. -/
theorem guarded_cases (checks : List (Bool × Check)) (r : Result) (s after : State) :
    ((∀ c ∈ checks, c.1 = true) ∧ guarded checks r s after = after) ∨
      (∃ k, firstFailure checks = some k ∧ (false, k) ∈ checks ∧ guarded checks r s after = violated k r s) := by
  cases h : firstFailure checks with
  | none => exact .inl ⟨(firstFailure_none checks).1 h, by simp [guarded, h]⟩
  | some k => exact .inr ⟨k, rfl, firstFailure_mem checks k h, by simp [guarded, h, violate_eq]⟩

/-- A frame is refused for want of a port, delivered and taken by the device, or not delivered as the world says. -/
theorem emitFrame_cases (f : Frame) (s : State) :
    (s.params.portPresent = false ∧ emitFrame f s = (.nullPort, s)) ∨
      (s.params.portPresent = true ∧ s.writeAnswer 0 = .ok ∧
        emitFrame f s = (.noError, deviceFrame f (recordWrite (.write (frameBytes s.params f)) s))) ∨
      (∃ why d, s.params.portPresent = true ∧ s.writeAnswer 0 = .failed why d ∧
        emitFrame f s =
          (writeCause why, disturb f d (recordWrite (.writeFailed (frameBytes s.params f) why) s))) := by
  cases hp : s.params.portPresent with
  | false => exact .inl ⟨rfl, by simp [emitFrame, hp]⟩
  | true =>
    cases ha : s.writeAnswer 0 with
    | ok => exact .inr (.inl ⟨rfl, rfl, by simp [emitFrame, hp, ha]⟩)
    | failed why d => exact .inr (.inr ⟨why, d, rfl, rfl, by simp [emitFrame, hp, ha]⟩)

/-- A read succeeds where it is answered `ok` and enough bytes are there. -/
theorem readFailure_none (n : Nat) (s : State) :
    readFailure n s = none ↔ s.readAnswer 0 = .ok ∧ n ≤ s.inbound.length := by
  unfold readFailure
  cases s.readAnswer 0 <;> simp

/-- A read that the world answers with a failure fails so, and leaves the pending bytes of the answer. -/
theorem readFailure_failed (n : Nat) (s : State) (why : ReadFailure) (pending : List Byte)
    (h : s.readAnswer 0 = .failed why pending) : readFailure n s = some (why, pending) := by
  simp [readFailure, h]

/-- A read finds no port, takes exactly `n` bytes, or fails, as the world answered or for want of bytes, with any bytes
pending after it. -/
theorem portRead_cases (n : Nat) (s : State) :
    (s.params.portPresent = false ∧ portRead n s = ⟨.nullPort, [], s⟩) ∨
      (s.params.portPresent = true ∧ s.readAnswer 0 = .ok ∧ n ≤ s.inbound.length ∧
        portRead n s =
          ⟨.noError, s.inbound.take n, recordRead (.read n (s.inbound.take n)) (s.inbound.drop n) s⟩) ∨
      (∃ why pending, s.params.portPresent = true ∧
        (s.readAnswer 0 = .failed why pending ∨ (s.readAnswer 0 = .ok ∧ s.inbound.length < n)) ∧
        portRead n s = ⟨readCause why, [], recordRead (.readFailed n why) pending s⟩) := by
  cases hp : s.params.portPresent with
  | false => exact .inl ⟨rfl, by simp [portRead, hp]⟩
  | true =>
    cases ha : s.readAnswer 0 with
    | failed why pending =>
      exact .inr (.inr ⟨why, pending, rfl, .inl rfl, by simp [portRead, hp, readFailure_failed n s why pending ha]⟩)
    | ok =>
      by_cases hn : n ≤ s.inbound.length
      · exact .inr (.inl ⟨rfl, rfl, hn, by simp [portRead, hp, (readFailure_none n s).2 ⟨ha, hn⟩]⟩)
      · exact .inr (.inr ⟨_, _, rfl, .inr ⟨rfl, by omega⟩, by simp only [portRead, hp, readFailure, ha, hn]; rfl⟩)

theorem writeCause_ne (why : WriteFailure) : writeCause why ≠ .noError := by cases why <;> decide

theorem readCause_ne (why : ReadFailure) : readCause why ≠ .noError := by cases why <;> decide

/-- The device answers with exactly as many bytes as it is obliged to. -/
theorem length_nextReply (n : Nat) (s : State) : (nextReply n s).length = n := by simp [nextReply]

/-- A listed reply is what the device answers with. -/
theorem nextReply_listed (s : State) (y rest : List Byte) (h : s.replyBytes = y ++ rest) :
    nextReply y.length s = y := by
  refine List.ext_getElem (length_nextReply _ _) fun i hi _ => ?_
  have hi' : i < y.length := by simpa [nextReply] using hi
  simp [nextReply, State.replyByte, h, List.getElem?_append_left hi', hi']

/-- The answers of a state in which some have been used up are those that come later. -/
theorem used_writeAnswer (w r b k n : Nat) (s : State) : (used w r b k s).writeAnswer n = s.writeAnswer (w + n) := by
  simp [State.writeAnswer, used, Nat.add_assoc]

theorem used_readAnswer (w r b k n : Nat) (s : State) : (used w r b k s).readAnswer n = s.readAnswer (r + n) := by
  simp [State.readAnswer, used, Nat.add_assoc]

theorem used_replyByte (w r b k n : Nat) (s : State) : (used w r b k s).replyByte n = s.replyByte (b + n) := by
  simp [State.replyByte, used, Nat.add_assoc]

/-- A read frame whose write fails leaves the target in its Shift state. -/
theorem brokenTap_read (len : BitVec 32) (y : List Byte) (free : TapState) (s : State) (h : isShift s.physTap = true) :
    brokenTap (.j len flagsRead y) free s = s.physTap := by
  simp [brokenTap, h]

/-- Where pulses hold the target it is in Run-Test/Idle, like the replica, with TMS low. -/
theorem pulsesHold_iff (s : State) :
    pulsesHold s = true ↔ s.tapState = .rti ∧ s.physTap = .rti ∧ s.params.runtestTmsLevel = false := by
  simp [pulsesHold, and_assoc]

/-- Queuing bits one by one appends them, and the replica walks over them. -/
theorem queueAll_eq (s : State) (bits : BitStream) :
    queueAll s bits = { s with tmsBuf := s.tmsBuf ++ bits, tapState := runTap s.tapState bits } := by
  induction bits generalizing s with
  | nil => simp [queueAll, runTap]
  | cons b bits ih =>
    have : queueAll s (b :: bits) = queueAll (queueTms s b) bits := rfl
    rw [this, ih]
    simp [queueTms, runTap]

/-- A flush is a mismatch, which writes nothing, or it writes the frames its buffers select; the buffers are empty in
either case. -/
theorem flushBuffers_cases (s : State) :
    (flushCase s.tmsBuf.length s.tdiBuf.length = .mismatch ∧ flushBuffers s = raised .lengthMismatch .none s) ∨
      (∃ c t, flushCase s.tmsBuf.length s.tdiBuf.length ≠ .mismatch ∧
        emitAll (flushFrames s.tmsBuf s.tdiBuf) { s with tmsBuf := [], tdiBuf := [] } = (c, t) ∧
        ((c = .noError ∧ flushBuffers s = answered .none t) ∨
          (c ≠ .noError ∧ flushBuffers s = raised c .none t))) := by
  by_cases h : flushCase s.tmsBuf.length s.tdiBuf.length = .mismatch
  · exact .inl ⟨h, by simp [flushBuffers, h, raise_eq, raised]⟩
  · refine .inr ⟨(emitAll (flushFrames s.tmsBuf s.tdiBuf) { s with tmsBuf := [], tdiBuf := [] }).1,
      (emitAll (flushFrames s.tmsBuf s.tdiBuf) { s with tmsBuf := [], tdiBuf := [] }).2, h, rfl, ?_⟩
    have hf : flushBuffers s =
        conclude (emitAll (flushFrames s.tmsBuf s.tdiBuf) { s with tmsBuf := [], tdiBuf := [] }).1 .none
          (emitAll (flushFrames s.tmsBuf s.tdiBuf) { s with tmsBuf := [], tdiBuf := [] }).2 := by
      unfold flushBuffers
      split
      · rename_i hm; exact absurd hm h
      · rfl
    by_cases hc : (emitAll (flushFrames s.tmsBuf s.tdiBuf) { s with tmsBuf := [], tdiBuf := [] }).1 = .noError
    · exact .inl ⟨hc, by rw [hf, hc, conclude_noError]⟩
    · exact .inr ⟨hc, by rw [hf, conclude_error _ _ _ hc]⟩

/-- Frames are written in order up to the first that fails. -/
theorem emitAll_cons (f : Frame) (rest : List Frame) (s : State) :
    emitAll (f :: rest) s =
      if (emitFrame f s).1 = .noError then emitAll rest (emitFrame f s).2 else emitFrame f s := by
  rcases h : emitFrame f s with ⟨c, s'⟩
  cases c <;> simp [emitAll, h]

/-- A scan fails at its frame, fails at its read, or captures `n` bits. -/
theorem scanTdo_cases (n : Nat) (flags : Byte) (s : State) :
    (∃ c s1, emitFrame (.j (count32 n) flags []) s = (c, s1) ∧ c ≠ .noError ∧ scanTdo n flags s = ⟨c, [], s1⟩) ∨
      (∃ s1 c s2 y, emitFrame (.j (count32 n) flags []) s = (.noError, s1) ∧ portRead (ceil8 n) s1 = ⟨c, y, s2⟩ ∧
        c ≠ .noError ∧ scanTdo n flags s = ⟨c, [], s2⟩) ∨
      (∃ s1 s2 y, emitFrame (.j (count32 n) flags []) s = (.noError, s1) ∧
        portRead (ceil8 n) s1 = ⟨.noError, y, s2⟩ ∧ scanTdo n flags s = ⟨.noError, unpackBits y n, s2⟩) := by
  rcases h : emitFrame (.j (count32 n) flags []) s with ⟨c, s1⟩
  by_cases hc : c = .noError
  · subst hc
    rcases hr : portRead (ceil8 n) s1 with ⟨c2, y, s2⟩
    by_cases hc2 : c2 = .noError
    · subst hc2; exact .inr (.inr ⟨s1, s2, y, rfl, hr, by simp [scanTdo, h, hr]⟩)
    · refine .inr (.inl ⟨s1, c2, s2, y, rfl, hr, hc2, ?_⟩)
      cases c2 <;> first | exact absurd rfl hc2 | simp [scanTdo, h, hr]
  · refine .inl ⟨c, s1, rfl, hc, ?_⟩
    cases c <;> first | exact absurd rfl hc | simp [scanTdo, h]

/-- What the fetch can answer. -/
theorem fetch_cases (s : State) :
    (s.inputs = [] ∧ fetch s = .idle) ∨
      (∃ x rest i, s.inputs = x :: rest ∧ decode s.params x = .ok i ∧ fetch s = .run i (takeInput s)) ∨
      (∃ x rest, s.inputs = x :: rest ∧ decode s.params x = .error .badOp ∧
        fetch s = .undefinedOp (violated .badOp .none (takeInput s))) ∨
      (∃ x rest f, s.inputs = x :: rest ∧ decode s.params x = .error (.unlistedFrame f) ∧
        fetch s = .otherFrame (deviceFrame f (takeInput s))) ∨
      (∃ x rest e, s.inputs = x :: rest ∧ decode s.params x = .error e ∧
        (fetch s = .malformed ∨ fetch s = .unknownFrame)) := by
  cases h : s.inputs with
  | nil => exact .inl ⟨rfl, by simp [fetch, h]⟩
  | cons x rest =>
    cases hd : decode s.params x with
    | ok i => exact .inr (.inl ⟨x, rest, i, rfl, hd, by simp [fetch, h, hd]⟩)
    | error e =>
      cases e
      case badOp => exact .inr (.inr (.inl ⟨x, rest, rfl, hd, by simp [fetch, h, hd, violate_eq]⟩))
      case unlistedFrame f => exact .inr (.inr (.inr (.inl ⟨x, rest, f, rfl, hd, by simp [fetch, h, hd]⟩)))
      all_goals exact .inr (.inr (.inr (.inr ⟨x, rest, _, rfl, hd, by simp [fetch, h, hd]⟩)))

end Sys2Proof.Machine
end

