-- ==== Sys2Proof/Laws/PerInstr.lean ====
section
/-! SUPPORT. A statement about every instruction, with one lemma per constructor: its encoding opens with its own code,
the operation code of 30_encoding.md R111 for a request, the command opcode of R91 for a frame. -/

namespace Sys2Proof.Laws.OpensWithItsCode

open Sys2Proof.Machine Sys2Proof.Config

/-- The code R111 or R91 gives an instruction. -/
def code (p : Params) : Instr → Byte
  | .bsFromInt _ _ => 0x01
  | .bsFromBytes _ _ => 0x02
  | .bsFromString _ => 0x03
  | .pushBack _ _ => 0x04
  | .pushFront _ _ => 0x05
  | .popBack _ _ => 0x06
  | .popFront _ _ => 0x07
  | .front _ _ => 0x08
  | .back _ _ => 0x09
  | .concat _ _ => 0x0A
  | .slice _ _ _ => 0x0B
  | .toInt _ => 0x0C
  | .toIntWindow _ _ _ => 0x0D
  | .toStr _ => 0x0E
  | .size _ => 0x0F
  | .pack _ => 0x10
  | .unpack _ _ => 0x11
  | .interleave _ _ => 0x12
  | .tapNext _ _ => 0x20
  | .flush => 0x40
  | .resetTap => 0x41
  | .goThruStates _ => 0x42
  | .shiftTdi _ _ _ => 0x43
  | .shiftTdo _ _ _ => 0x44
  | .runTest _ => 0x45
  | .jframePutTms _ _ => p.jtagCmd
  | .jframePutTdi _ _ => p.jtagCmd
  | .jframePutTmsTdi _ _ => p.jtagCmd
  | .jframeGetTdo _ => p.jtagCmd
  | .jframeGetTdoExit _ => p.jtagCmd
  | .rframe _ => p.runtestCmd

/-- The encoding of an instruction opens with its code, at the interface it belongs to. -/
def Statement (i : Instr) : Prop :=
  ∀ p : Params, ∃ rest, encode p i = if isRequest i then .request (code p i :: rest) else .frame (code p i :: rest)

theorem request_statement (i : Instr) (op : Nat) (operands : List Bool) (hf : frameOf i = none)
    (hp : requestParts i = some (op, operands)) (hc : ∀ p, byteOf (bitsOf 8 op) = code p i) : Statement i := by
  intro p
  refine ⟨packBits operands, ?_⟩
  have hr : isRequest i = true := by simp [isRequest, hf]
  simp [encode, hf, hp, hr, packBits_byte _ _ (length_bitsOf 8 op), hc p]

theorem bsFromInt (v : BitVec 64) (k : Nat) : Statement (.bsFromInt v k) :=
  request_statement _ _ _ rfl rfl fun _ => rfl

theorem bsFromBytes (a : List Byte) (nbits : Nat) : Statement (.bsFromBytes a nbits) :=
  request_statement _ _ _ rfl rfl fun _ => rfl

theorem bsFromString (str : List Char) : Statement (.bsFromString str) :=
  request_statement _ _ _ rfl rfl fun _ => rfl

theorem pushBack (s : BitStream) (b : PushArg) : Statement (.pushBack s b) :=
  request_statement _ _ _ rfl rfl fun _ => rfl

theorem pushFront (s : BitStream) (b : PushArg) : Statement (.pushFront s b) :=
  request_statement _ _ _ rfl rfl fun _ => rfl

theorem popBack (s : BitStream) (k : Nat) : Statement (.popBack s k) :=
  request_statement _ _ _ rfl rfl fun _ => rfl

theorem popFront (s : BitStream) (k : Nat) : Statement (.popFront s k) :=
  request_statement _ _ _ rfl rfl fun _ => rfl

theorem front (s : BitStream) (k : Nat) : Statement (.front s k) :=
  request_statement _ _ _ rfl rfl fun _ => rfl

theorem back (s : BitStream) (k : Nat) : Statement (.back s k) :=
  request_statement _ _ _ rfl rfl fun _ => rfl

theorem concat (a b : BitStream) : Statement (.concat a b) :=
  request_statement _ _ _ rfl rfl fun _ => rfl

theorem slice (s : BitStream) (first last : Nat) : Statement (.slice s first last) :=
  request_statement _ _ _ rfl rfl fun _ => rfl

theorem toInt (s : BitStream) : Statement (.toInt s) :=
  request_statement _ _ _ rfl rfl fun _ => rfl

theorem toIntWindow (s : BitStream) (first last : Nat) : Statement (.toIntWindow s first last) :=
  request_statement _ _ _ rfl rfl fun _ => rfl

theorem toStr (s : BitStream) : Statement (.toStr s) :=
  request_statement _ _ _ rfl rfl fun _ => rfl

theorem size (s : BitStream) : Statement (.size s) :=
  request_statement _ _ _ rfl rfl fun _ => rfl

theorem pack (s : BitStream) : Statement (.pack s) :=
  request_statement _ _ _ rfl rfl fun _ => rfl

theorem unpack (y : List Byte) (n : Nat) : Statement (.unpack y n) :=
  request_statement _ _ _ rfl rfl fun _ => rfl

theorem interleave (a b : List Byte) : Statement (.interleave a b) :=
  request_statement _ _ _ rfl rfl fun _ => rfl

theorem tapNext (s : TapState) (tms : Bool) : Statement (.tapNext s tms) :=
  request_statement _ _ _ rfl rfl fun _ => rfl

theorem flush : Statement .flush :=
  request_statement _ _ _ rfl rfl fun _ => rfl

theorem resetTap : Statement .resetTap :=
  request_statement _ _ _ rfl rfl fun _ => rfl

theorem goThruStates (targets : List TapState) : Statement (.goThruStates targets) :=
  request_statement _ _ _ rfl rfl fun _ => rfl

theorem shiftTdi (bits : BitStream) (exitShift doFlush : Bool) : Statement (.shiftTdi bits exitShift doFlush) :=
  request_statement _ _ _ rfl rfl fun _ => rfl

theorem shiftTdo (n : Nat) (exitShift : Bool) (out : BitStream) : Statement (.shiftTdo n exitShift out) :=
  request_statement _ _ _ rfl rfl fun _ => rfl

theorem runTest (n : Nat) : Statement (.runTest n) :=
  request_statement _ _ _ rfl rfl fun _ => rfl

theorem jframePutTms (len : BitVec 32) (payload : List Byte) : Statement (.jframePutTms len payload) := fun _ => ⟨_, rfl⟩

theorem jframePutTdi (len : BitVec 32) (payload : List Byte) : Statement (.jframePutTdi len payload) := fun _ => ⟨_, rfl⟩

theorem jframePutTmsTdi (len : BitVec 32) (payload : List Byte) : Statement (.jframePutTmsTdi len payload) := fun _ => ⟨_, rfl⟩

theorem jframeGetTdo (len : BitVec 32) : Statement (.jframeGetTdo len) := fun _ => ⟨_, rfl⟩

theorem jframeGetTdoExit (len : BitVec 32) : Statement (.jframeGetTdoExit len) := fun _ => ⟨_, rfl⟩

theorem rframe (n : BitVec 32) : Statement (.rframe n) := fun _ => ⟨_, rfl⟩

end Sys2Proof.Laws.OpensWithItsCode
end

