-- ==== Sys2Proof/Machine/Clients.lean ====
section
/-! DEFINITION. The client sequences over the engine (44_client_sequences.md): macros, and the payloads of the memory and
DUT clients. They are usage only (00_scope.md R5) and add no state to the engine. -/

namespace Sys2Proof.Machine

/-- A client sequence ends at the first operation that returns a status other than None (60_exceptions.md R288). -/
def runSequence : List Instr → State → Host.Outcome State Fault Refusal
  | [], s => .next s
  | i :: rest, s =>
    match exec i s with
    | .next t => if t.status = .none then runSequence rest t else .next t
    | .fault r => .fault r
    | .refused r => .refused r

/-- `hostio_reset(USER_INSTR)` (R260). -/
def hostioReset (userInstr : BitStream) : List Instr :=
  [.resetTap, .goThruStates [.rti, .sds, .sis, .cir, .shir], .shiftTdi userInstr true true,
    .goThruStates [.uir, .sds, .cdr, .shdr]]

/-- `ID_FIELD` (R262). -/
def idField : Nat := 8

/-- `LEN_FIELD` (R262). -/
def lenField : Nat := 32

/-- The combined stream of `hostio_cmd`: payload, then length, then module id (R262, R263). -/
def hostioStream (id : Byte) (payload : BitStream) (resultBits : Nat) : BitStream :=
  payload ++ bitsOf lenField (payload.length + resultBits) ++ bitsOf idField id.toNat

/-- Streams put together by `concat`, one after another, the first at the front: each step is an operation and can be
refused. -/
def concatAll (front : BitStream) : List BitStream → List Instr
  | [] => []
  | b :: rest => .concat front b :: concatAll (front ++ b) rest

/-- `hostio_cmd(id, payload, n_result_bits)` (R262): the two fields are made, the three parts put together, and the result
sent. -/
def hostioCmd (id : Byte) (payload : BitStream) (resultBits : Nat) : List Instr :=
  [.bsFromInt (BitVec.ofNat 64 (payload.length + resultBits)) lenField, .bsFromInt (id.setWidth 64) idField] ++
    concatAll payload [bitsOf lenField (payload.length + resultBits), bitsOf idField id.toNat] ++
    [.shiftTdi (hostioStream id payload resultBits) false true] ++
    (if resultBits = 0 then [] else [.shiftTdo resultBits false []])

/-- The client opcode `NOP` (R264). -/
def clientNop : BitStream := bitsOfString ['0', '0']
/-- The client opcode `SIZE` (R264). -/
def clientSize : BitStream := bitsOfString ['0', '1']
/-- The client opcode `WRITE` (R264). -/
def clientWrite : BitStream := bitsOfString ['1', '0']
/-- The client opcode `READ` (R264). -/
def clientRead : BitStream := bitsOfString ['1', '1']

/-- `get_size` of either client (R264, R265). -/
def clientGetSize (id : Byte) : List Instr := hostioCmd id clientSize 17

/-- The two widths of a size reply: the first bit is discarded, then two bytes (R264, R265). -/
def sizeReply (results : BitStream) : Nat × Nat :=
  (val ((results.drop 1).take 8), val ((results.drop 9).take 8))

/-- `read(addr, n)` of the memory client (R264). The address is made by `bs_from_int`, which refuses a width above 64. -/
def memRead (id : Byte) (addrWidth dataWidth : Nat) (addr : BitVec 64) (n : Nat) : List Instr :=
  [.bsFromInt addr addrWidth] ++ concatAll (bitsOf addrWidth addr.toNat) [clientRead] ++
    hostioCmd id (bitsOf addrWidth addr.toNat ++ clientRead) (dataWidth * (n + 1))

/-- The words of a memory read reply, after the skip word (R264). -/
def memReadReply (dataWidth n : Nat) (results : BitStream) : List Nat :=
  (List.range n).map fun i => val ((results.drop (dataWidth * (i + 1))).take dataWidth)

/-- The parts of the payload of a memory write: the values, then the address, then the opcode (R264). -/
def memWriteParts (addrWidth dataWidth : Nat) (addr : BitVec 64) (values : List (BitVec 64)) : List BitStream :=
  values.map (fun v => bitsOf dataWidth v.toNat) ++ [bitsOf addrWidth addr.toNat, clientWrite]

/-- `write(addr, values)` of the memory client (R264). The values and the address are made by `bs_from_int`, which refuses a
width above 64. -/
def memWrite (id : Byte) (addrWidth dataWidth : Nat) (addr : BitVec 64) (values : List (BitVec 64)) : List Instr :=
  values.map (fun v => .bsFromInt v dataWidth) ++ [.bsFromInt addr addrWidth] ++
    concatAll [] (memWriteParts addrWidth dataWidth addr values) ++
    hostioCmd id (memWriteParts addrWidth dataWidth addr values).flatten 0

/-- `read()` of the DUT client (R265). -/
def dutRead (id : Byte) (outputWidth : Nat) : List Instr := hostioCmd id clientRead (outputWidth + 1)

/-- The result of a DUT read, after the skip bit (R265). -/
def dutReadReply (results : BitStream) : BitStream := results.drop 1

/-- `write(vector)` of the DUT client (R265). -/
def dutWrite (id : Byte) (vector : BitStream) : List Instr :=
  concatAll vector [clientWrite] ++ hostioCmd id (vector ++ clientWrite) 0

end Sys2Proof.Machine
end

