-- ==== Sys2Proof/Machine/Response.lean ====
section
/-! DEFINITION. The response the engine presents (30_encoding.md R110): the 2-bit status, then the result, in the
conventions of a request's operands. -/

namespace Sys2Proof.Machine

/-- The bits of a result. -/
def resultBits : Result → List Bool
  | .none => []
  | .stream s => streamBits s
  | .popped s removed => streamBits s ++ streamBits removed
  | .int v => bitsOf intWidth v
  | .string str => charsBits str
  | .bytes y => bytesBits y
  | .tap s => tapBits s

/-- The bits of the response to the latest operation. -/
def responseBits (s : State) : List Bool := bitsOf 2 (severityCode s.status) ++ resultBits s.result

end Sys2Proof.Machine
end

