-- ==== Sys2Proof/Tests/Slice0.lean ====
section
/-! SUPPORT. Tests: ill-formed terms, words written out from the spec, the vectors of spec/95_test_vectors.md (each
theorem names its vector), and for each statement with hypotheses a state and operands that meet them. -/

namespace Sys2Proof.Tests

open Sys2Proof.Machine Sys2Proof.Config

/-- Parameters for the tests; the two opcode bytes are arbitrary different bytes. -/
def params : Params := ⟨0xA0, 0xB0, some 100, 100, true, false⟩

/-- A state in which every transfer answers `ok`. -/
def at_ (tap : TapState) (tms tdi : BitStream) (reply : List Byte) : State where
  params := params
  tapState := tap
  tmsBuf := tms
  tdiBuf := tdi
  err := .none
  cause := .noError
  result := .none
  port := []
  inbound := []
  physTap := tap
  pins := []
  inputs := []
  writeAnswers := [.ok, .ok]
  readAnswers := [.ok, .ok]
  replyBytes := reply
  writeCount := 0
  readCount := 0
  replyCount := 0
  tapCount := 0

/-- The same with no port. -/
def portless (tap : TapState) (tms tdi : BitStream) : State :=
  { at_ tap tms tdi [] with params := ⟨0xA0, 0xB0, some 100, 100, false, false⟩ }

/-- The same with a capacity of `d` bits. -/
def shallow (d : Nat) (tap : TapState) : State :=
  { at_ tap [] [] [] with params := ⟨0xA0, 0xB0, some d, 100, true, false⟩ }

/-- The same with unbounded streams. -/
def unbounded (tap : TapState) (tms tdi : BitStream) : State :=
  { at_ tap tms tdi [] with params := ⟨0xA0, 0xB0, none, 100, true, false⟩ }

/-- What the device does with a write that fails, in the tests. -/
def lost : Disturbance := ⟨3, []⟩

/-- The same with a first write that is delivered and a second that fails. -/
def failingSecond (tap : TapState) (tms tdi : BitStream) : State :=
  { at_ tap tms tdi [] with writeAnswers := [.ok, .failed .timeout lost] }

/-- The same with no port and unbounded streams. -/
def portlessUnbounded (tap : TapState) : State :=
  { at_ tap [] [] [] with params := ⟨0xA0, 0xB0, none, 100, false, false⟩ }

/-- The same with a first read that is short and leaves one byte in the port. -/
def shortReading (tap : TapState) (reply : List Byte) : State :=
  { at_ tap [] [] reply with readAnswers := [.failed .shortRead [6]] }

/-- The same with a first write that fails. -/
def failing (tap : TapState) (tms tdi : BitStream) : State :=
  { at_ tap tms tdi [] with writeAnswers := [.failed .shortWrite lost] }

/-- The state after an instruction. -/
def after (i : Instr) (s : State) : State :=
  match exec i s with
  | .next t => t
  | _ => s

/-- The bits of a string literal of the spec, leftmost character the back. -/
def lit (str : List Char) : BitStream := bitsOfString str

/-! ## WellFormed: an ill-formed term for each check -/

/-- A stream too long for a length field. -/
def big : BitStream := List.replicate (2 ^ 64) true
/-- A byte array too long for a length field. -/
def bigBytes : List Byte := List.replicate (2 ^ 64) 0
/-- A string too long for a length field. -/
def bigString : List Char := List.replicate (2 ^ 64) '0'
/-- A walk too long for a length field. -/
def bigWalk : List TapState := List.replicate (2 ^ 64) .rti

theorem lengthFits_big : lengthFits big.length = false := by
  rw [show big.length = 2 ^ 64 from List.length_replicate]; decide
theorem lengthFits_bigBytes : lengthFits bigBytes.length = false := by
  rw [show bigBytes.length = 2 ^ 64 from List.length_replicate]; decide
theorem lengthFits_bigString : lengthFits bigString.length = false := by
  rw [show bigString.length = 2 ^ 64 from List.length_replicate]; decide
theorem lengthFits_bigWalk : lengthFits bigWalk.length = false := by
  rw [show bigWalk.length = 2 ^ 64 from List.length_replicate]; decide

theorem smoke_widths : (Instr.bsFromInt 0 128).wellFormed = false ∧ (Instr.front [] 128).wellFormed = false ∧
    (Instr.back [] 128).wellFormed = false ∧ (Instr.pushBack [] (.int 0 128)).wellFormed = false ∧
    (Instr.pushFront [] (.int 0 128)).wellFormed = false := by decide

theorem smoke_counts : (Instr.bsFromBytes [] (2 ^ 64)).wellFormed = false ∧
    (Instr.popBack [] (2 ^ 64)).wellFormed = false ∧ (Instr.popFront [] (2 ^ 64)).wellFormed = false ∧
    (Instr.slice [] (2 ^ 64) 0).wellFormed = false ∧ (Instr.slice [] 0 (2 ^ 64)).wellFormed = false ∧
    (Instr.toIntWindow [] (2 ^ 64) 0).wellFormed = false ∧ (Instr.toIntWindow [] 0 (2 ^ 64)).wellFormed = false ∧
    (Instr.unpack [] (2 ^ 64)).wellFormed = false ∧ (Instr.shiftTdo (2 ^ 32) false []).wellFormed = false ∧
    (Instr.runTest (2 ^ 32)).wellFormed = false := by decide

theorem smoke_lengths : (Instr.bsFromBytes bigBytes 0).wellFormed = false ∧
    (Instr.bsFromString bigString).wellFormed = false ∧ (Instr.unpack bigBytes 0).wellFormed = false ∧
    (Instr.interleave bigBytes []).wellFormed = false ∧ (Instr.interleave [] bigBytes).wellFormed = false ∧
    (Instr.goThruStates bigWalk).wellFormed = false := by
  simp only [Instr.wellFormed, lengthFits_bigBytes, lengthFits_bigString, lengthFits_bigWalk, Bool.false_and,
    Bool.and_false, and_self]

theorem smoke_streams : (Instr.pushBack big (.int 0 0)).wellFormed = false ∧
    (Instr.pushBack [] (.stream big)).wellFormed = false ∧ (Instr.pushFront big (.int 0 0)).wellFormed = false ∧
    (Instr.pushFront [] (.stream big)).wellFormed = false ∧ (Instr.popBack big 0).wellFormed = false ∧
    (Instr.popFront big 0).wellFormed = false ∧ (Instr.front big 1).wellFormed = false ∧
    (Instr.back big 1).wellFormed = false ∧ (Instr.concat big []).wellFormed = false ∧
    (Instr.concat [] big).wellFormed = false ∧ (Instr.slice big 0 0).wellFormed = false ∧
    (Instr.toInt big).wellFormed = false ∧ (Instr.toIntWindow big 0 0).wellFormed = false ∧
    (Instr.toStr big).wellFormed = false ∧ (Instr.size big).wellFormed = false ∧ (Instr.pack big).wellFormed = false ∧
    (Instr.shiftTdi big false false).wellFormed = false ∧ (Instr.shiftTdo 0 false big).wellFormed = false := by
  simp only [Instr.wellFormed, PushArg.wellFormed, lengthFits_big, Bool.false_and, Bool.and_false, and_self]

theorem smoke_characters : (Instr.bsFromString ['→']).wellFormed = false := by decide

theorem smoke_frames : (Instr.jframePutTms 0 []).wellFormed = false ∧ (Instr.jframePutTms 9 [1]).wellFormed = false ∧
    (Instr.jframePutTdi 0 []).wellFormed = false ∧ (Instr.jframePutTdi 8 [1, 2]).wellFormed = false ∧
    (Instr.jframePutTmsTdi 0 []).wellFormed = false ∧ (Instr.jframePutTmsTdi 1 [1]).wellFormed = false ∧
    (Instr.jframeGetTdo 0).wellFormed = false ∧ (Instr.jframeGetTdoExit 2).wellFormed = false := by decide

/-! ## Decoding: words written out from R110, R111 (the field widths of log entry 4), R92 and R96 -/

/-- Bits written in the order of the request, eight to a byte, as the encodings below are. -/
abbrev decodes (bytes : List Byte) (i : Instr) : Prop := decodeRequest bytes = .ok i

/-- A 64-bit field with a value below 256. -/
def n64 (b : Byte) : List Byte := [b, 0, 0, 0, 0, 0, 0, 0]

theorem decode_bsFromInt : decodes ([0x01] ++ n64 0x05 ++ [0x08]) (.bsFromInt 5 8) := by decide
theorem decode_bsFromBytes : decodes ([0x02] ++ n64 2 ++ [0x80, 0x00] ++ n64 2) (.bsFromBytes [0x80, 0x00] 2) := by decide
theorem decode_bsFromString : decodes ([0x03] ++ n64 2 ++ [0x30, 0x31]) (.bsFromString ['0', '1']) := by decide
/-- Three stream bits 1,0,1, the form bit 0, a 64-bit length 2, the bits 0,1. -/
theorem decode_pushBack : decodes ([0x04] ++ n64 3 ++ [0x25, 0, 0, 0, 0, 0, 0, 0, 0x20])
    (.pushBack [true, false, true] (.stream [false, true])) := by decide
/-- An empty stream, the form bit 1, the 64-bit value 2, the 7-bit width 2. -/
theorem decode_pushFront : decodes ([0x05] ++ n64 0 ++ [0x05, 0, 0, 0, 0, 0, 0, 0, 0x04])
    (.pushFront [] (.int 2 2)) := rfl
theorem decode_popBack : decodes ([0x06] ++ n64 8 ++ [0xA5] ++ n64 2) (.popBack (bitsOf 8 0xA5) 2) := by decide
theorem decode_popFront : decodes ([0x07] ++ n64 8 ++ [0xA5] ++ n64 2) (.popFront (bitsOf 8 0xA5) 2) := by decide
theorem decode_front : decodes ([0x08] ++ n64 8 ++ [0xA5] ++ [3]) (.front (bitsOf 8 0xA5) 3) := by decide
theorem decode_back : decodes ([0x09] ++ n64 8 ++ [0xA5] ++ [3]) (.back (bitsOf 8 0xA5) 3) := by decide
theorem decode_concat : decodes ([0x0A] ++ n64 8 ++ [0x0F] ++ n64 8 ++ [0x33])
    (.concat (bitsOf 8 0x0F) (bitsOf 8 0x33)) := by decide
theorem decode_slice : decodes ([0x0B] ++ n64 8 ++ [0xA5] ++ n64 1 ++ n64 4) (.slice (bitsOf 8 0xA5) 1 4) := by decide
theorem decode_toInt : decodes ([0x0C] ++ n64 8 ++ [0xA5]) (.toInt (bitsOf 8 0xA5)) := by decide
theorem decode_toIntWindow : decodes ([0x0D] ++ n64 8 ++ [0xA5] ++ n64 1 ++ n64 4)
    (.toIntWindow (bitsOf 8 0xA5) 1 4) := by decide
theorem decode_toStr : decodes ([0x0E] ++ n64 8 ++ [0xA5]) (.toStr (bitsOf 8 0xA5)) := by decide
theorem decode_size : decodes ([0x0F] ++ n64 8 ++ [0xA5]) (.size (bitsOf 8 0xA5)) := by decide
theorem decode_pack : decodes ([0x10] ++ n64 8 ++ [0xA5]) (.pack (bitsOf 8 0xA5)) := by decide
theorem decode_unpack : decodes ([0x11] ++ n64 2 ++ [0x46, 0x03] ++ n64 10) (.unpack [0x46, 0x03] 10) := by decide
theorem decode_interleave : decodes ([0x12] ++ n64 1 ++ [0xF3] ++ n64 1 ++ [0xA5]) (.interleave [0xF3] [0xA5]) := by decide
/-- The code 11 of SHIR in five bits, then the TMS bit 1: 11 + 32. -/
theorem decode_tapNext : decodes [0x20, 0x2B] (.tapNext .shir true) := by decide
theorem decode_flush : decodes [0x40] .flush := by decide
theorem decode_resetTap : decodes [0x41] .resetTap := by decide
/-- Two targets: RTI (code 1), SDS (code 2): 1 + 2 * 32. -/
theorem decode_goThruStates : decodes ([0x42] ++ n64 2 ++ [0x41, 0x00]) (.goThruStates [.rti, .sds]) := by decide
/-- Log entry 5: a code no state has is read as a target that is not one of the sixteen. -/
theorem decode_goThruStates_bad_code : decodes ([0x42] ++ n64 1 ++ [0x1F]) (.goThruStates [.inv]) := by decide
/-- Six stream bits of value 2, then exit 1 and flush 1. -/
theorem decode_shiftTdi : decodes ([0x43] ++ n64 6 ++ [0xC2])
    (.shiftTdi [false, true, false, false, false, false] true true) := by decide
/-- The 32-bit count 9, the exit bit 1, an empty stream. -/
theorem decode_shiftTdo : decodes ([0x44, 9, 0, 0, 0, 0x01] ++ n64 0) (.shiftTdo 9 true []) := by decide
theorem decode_runTest : decodes [0x45, 0x64, 0, 0, 0] (.runTest 100) := by decide
theorem decode_jframePutTms :
    decodeFrame params [0xA0, 0x0A, 0, 0, 0, 0x02, 0x46, 0x03] = .ok (.jframePutTms 10 [0x46, 0x03]) := by decide
theorem decode_jframePutTdi :
    decodeFrame params [0xA0, 0x09, 0, 0, 0, 0x08, 0xA5, 0x01] = .ok (.jframePutTdi 9 [0xA5, 0x01]) := by decide
theorem decode_jframePutTmsTdi :
    decodeFrame params [0xA0, 0x01, 0, 0, 0, 0x0A, 0x01, 0x00] = .ok (.jframePutTmsTdi 1 [0x01, 0x00]) := by decide
theorem decode_jframeGetTdo : decodeFrame params [0xA0, 0x30, 0, 0, 0, 0x01] = .ok (.jframeGetTdo 48) := by decide
theorem decode_jframeGetTdoExit : decodeFrame params [0xA0, 1, 0, 0, 0, 0x05] = .ok (.jframeGetTdoExit 1) := by decide
theorem decode_rframe : decodeFrame params [0xB0, 0x04, 0x03, 0x02, 0x01] = .ok (.rframe 0x01020304) := by decide
theorem decode_truncated : decodeRequest [0x45, 0x64, 0, 0] = .error .truncated := by decide
theorem decode_trailing : decodeRequest [0x40, 0x01] = .error .trailingBits := by decide
theorem decode_bad_tap_code : decodeRequest [0x20, 0x11] = .error .badTapCode := by decide
theorem decode_undefined_op : decodeRequest [0x30] = .error .badOp := by decide
theorem decode_reserved_flags : decodeFrame params [0xA0, 1, 0, 0, 0, 0x22, 0x01] = .error .unknownFrame := by decide

/-! ## The vectors of spec/95_test_vectors.md -/

/-- V-BS-2 -/
theorem test_bsFromInt_drops_high_bits :
    (after (.bsFromInt 0x1FF 8) (at_ .inv [] [] [])).result = .stream (lit ['1','1','1','1','1','1','1','1']) := by decide
/-- V-BS-4 -/
theorem test_bsFromInt_width : (after (.bsFromInt 1 65) (at_ .inv [] [] [])).cause = .contractViolation .widthRange ∧
    (after (.bsFromInt 1 65) (at_ .inv [] [] [])).err = .fatal := by decide
/-- V-BS-5 -/
theorem test_bsFromBytes_order :
    (after (.bsFromBytes [1, 0, 0xFF, 0] 3) (at_ .inv [] [] [])).result = .stream (lit ['1','0','1']) := by decide
/-- V-BS-7 -/
theorem test_bsFromBytes_underflow :
    (after (.bsFromBytes [1] 2) (at_ .inv [] [] [])).cause = .contractViolation .underflow := by decide
/-- V-BS-8 -/
theorem test_bsFromString_value : (after (.bsFromString ['0','0','0','0','1','0']) (at_ .inv [] [] [])).result =
    .stream [false, true, false, false, false, false] := by decide
/-- V-BS-9 -/
theorem test_bsFromString_bad_digit :
    (after (.bsFromString ['0','1','x','0']) (at_ .inv [] [] [])).cause = .contractViolation .badDigit := by decide
/-- V-BS-10 -/
theorem test_pushBack : (after (.pushBack (lit ['1','0','1']) (.int 2 2)) (at_ .inv [] [] [])).result =
    .stream (lit ['1','0','1','0','1']) := by decide
/-- R152 -/
theorem test_pushBack_capacity : (after (.pushBack [true] (.stream [true])) (shallow 1 .inv)).cause =
    .contractViolation .capacityOverflow := by decide
/-- V-BS-11 -/
theorem test_pushFront : (after (.pushFront (lit ['1','0','1']) (.stream (lit ['1','0']))) (at_ .inv [] [] [])).result =
    .stream (lit ['1','0','1','1','0']) := by decide
/-- V-BS-12 -/
theorem test_popBack : (after (.popBack (lit ['1','0','1','0','1']) 2) (at_ .inv [] [] [])).result =
    .popped (lit ['1','0','1']) (lit ['1','0']) := by decide
/-- V-BS-14 -/
theorem test_popBack_underflow : (after (.popBack (lit ['1','0','1']) 4) (at_ .inv [] [] [])).cause =
    .contractViolation .underflow := by decide
/-- V-BS-13 -/
theorem test_popFront : (after (.popFront (lit ['1','0','1','1','0']) 2) (at_ .inv [] [] [])).result =
    .popped (lit ['1','0','1']) (lit ['1','0']) := by decide
/-- V-BS-16 -/
theorem test_popFront_all : (after (.popFront (lit ['1','0','1']) 3) (at_ .inv [] [] [])).result =
    .popped [] (lit ['1','0','1']) := by decide
/-- V-BS-17 -/
theorem test_front : (after (.front (lit ['1','0','1','1','0']) 3) (at_ .inv [] [] [])).result = .int 6 := by decide
/-- V-BS-19 -/
theorem test_front_width_zero : (after (.front (lit ['1','0','1','1','0']) 0) (at_ .inv [] [] [])).cause =
    .contractViolation .widthRange := by decide
/-- V-BS-18 -/
theorem test_back : (after (.back (lit ['1','0','1','1','0']) 3) (at_ .inv [] [] [])).result = .int 5 := by decide
/-- V-BS-20 -/
theorem test_back_underflow : (after (.back (lit ['1','0','1','1','0']) 6) (at_ .inv [] [] [])).cause =
    .contractViolation .underflow := by decide
/-- V-BS-21 -/
theorem test_concat : (after (.concat (lit ['1','1']) (lit ['0','0','0','1'])) (at_ .inv [] [] [])).result =
    .stream (lit ['0','0','0','1','1','1']) := by decide
/-- V-BS-23 -/
theorem test_slice : (after (.slice (lit ['1','0','1','1','0']) 1 4) (at_ .inv [] [] [])).result =
    .stream (lit ['0','1','1']) := by decide
/-- V-BS-25 -/
theorem test_slice_range : (after (.slice (lit ['1','0','1','1','0']) 3 2) (at_ .inv [] [] [])).cause =
    .contractViolation .sliceRange := by decide
/-- V-BS-27 -/
theorem test_toInt_takes_top : (after (.toInt (bitsOf 64 0xDEADBEEFCAFEF00D ++ bitsOf 4 0xA)) (at_ .inv [] [] [])).result =
    .int 0xADEADBEEFCAFEF00 := by decide
/-- V-BS-32 -/
theorem test_toInt_short : (after (.toInt (bitsOf 8 5 ++ lit ['1','1'])) (at_ .inv [] [] [])).result = .int 0x305 := by decide
/-- V-BS-29 -/
theorem test_toIntWindow : (after (.toIntWindow (lit ['1','0','1','1','0']) 1 4) (at_ .inv [] [] [])).result = .int 3 := by
  decide
/-- V-BS-30 -/
theorem test_toStr : (after (.toStr (bitsOf 8 5)) (at_ .inv [] [] [])).result =
    .string ['0','0','0','0','0','1','0','1'] := by decide
/-- V-BS-31 -/
theorem test_size : (after (.size (bitsOf 8 5 ++ lit ['1','1'])) (at_ .inv [] [] [])).result = .int 10 := by decide
/-- V-PK-7 -/
theorem test_pack : (after (.pack (bitsOf 17 0x1ABCD)) (at_ .inv [] [] [])).result = .bytes [0xCD, 0xAB, 0x01] := by decide
/-- V-PK-3 -/
theorem test_pack_pads : (after (.pack (lit ['1','1','1','1','1'])) (at_ .inv [] [] [])).result = .bytes [0x1F] := by decide
/-- V-PK-8 -/
theorem test_unpack : (after (.unpack [0x46, 0x03] 10) (at_ .inv [] [] [])).result =
    .stream [false, true, true, false, false, false, true, false, true, true] := by decide
/-- V-PK-12 -/
theorem test_unpack_underflow : (after (.unpack [0xA5] 9) (at_ .inv [] [] [])).cause =
    .contractViolation .underflow := by decide
/-- V-PK-14 -/
theorem test_interleave : (after (.interleave [0xF3, 0x00] [0xA5, 0x01]) (at_ .inv [] [] [])).result =
    .bytes [0xF3, 0xA5, 0x00, 0x01] := by decide
/-- V-PK-16 -/
theorem test_interleave_unequal : (after (.interleave [0x01] [0x01, 0x02]) (at_ .inv [] [] [])).cause =
    .contractViolation .unequalBytes := by decide
/-- V-TAP -/
theorem test_tapNext : (after (.tapNext .e2ir true) (at_ .inv [] [] [])).result = .tap .uir := by decide
/-- V-FL-8 -/
theorem test_flush_split : (after .flush (at_ .e1dr [true] [false, true] [])).port =
    [.write [0xA0, 0x01, 0, 0, 0, 0x08, 0x00], .write [0xA0, 0x01, 0, 0, 0, 0x0A, 0x01, 0x01]] := by decide
/-- V-FL-11 -/
theorem test_flush_mismatch : (after .flush (at_ .tlr [true, true] [true, false, true] [])).cause = .lengthMismatch ∧
    (after .flush (at_ .tlr [true, true] [true, false, true] [])).port = [] := by decide
/-- V-RT-1 -/
theorem test_resetTap : (after .resetTap (at_ .inv [] [] [])).port = [.write [0xA0, 0x05, 0, 0, 0, 0x02, 0x1F]] ∧
    (after .resetTap (at_ .inv [] [] [])).tapState = .tlr := by decide
/-- V-RT-4 -/
theorem test_resetTap_coincidence : (after .resetTap (at_ .shdr [] (bitsOf 5 0x15) [])).port =
    [.write [0xA0, 0x05, 0, 0, 0, 0x0A, 0x1F, 0x15]] := by decide
/-- V-GO-1 -/
theorem test_goThruStates : (after (.goThruStates [.rti, .sds, .sis, .cir, .shir]) (at_ .tlr [] [] [])).port =
    [.write [0xA0, 0x05, 0, 0, 0, 0x02, 0x06]] := by decide
/-- V-GO-8 -/
theorem test_goThruStates_unreachable : (after (.goThruStates [.rti, .sds, .shdr]) (at_ .tlr [] [] [])).cause =
    .contractViolation .unreachableHop ∧
    (after (.goThruStates [.rti, .sds, .shdr]) (at_ .tlr [] [] [])).tmsBuf = [] := by decide
/-- V-TDI-2 -/
theorem test_shiftTdi_exit :
    (after (.shiftTdi (lit ['0','0','0','0','1','0']) true true) (at_ .shir [] [] [])).port =
      [.write [0xA0, 0x05, 0, 0, 0, 0x08, 0x02], .write [0xA0, 0x01, 0, 0, 0, 0x0A, 0x01, 0x00]] ∧
    (after (.shiftTdi (lit ['0','0','0','0','1','0']) true true) (at_ .shir [] [] [])).physTap = .e1ir := by decide
/-- V-ERR-1 -/
theorem test_shiftTdi_short_write :
    (after (.shiftTdi (lit ['0','0','0','0','1','0']) true true) (failing .shir [] [])).cause = .shortWrite ∧
    (after (.shiftTdi (lit ['0','0','0','0','1','0']) true true) (failing .shir [] [])).tapState = .e1ir := by decide
/-- V-TDO-2 -/
theorem test_shiftTdo_exit : (after (.shiftTdo 9 true []) (at_ .shdr [] [] [0xA5, 0x01])).result =
    .stream (bitsOf 9 0x1A5) ∧
    (after (.shiftTdo 9 true []) (at_ .shdr [] [] [0xA5, 0x01])).tapState = .e1dr := by decide
/-- V-TDO-6 -/
theorem test_shiftTdo_appends : (after (.shiftTdo 3 false (lit ['0','1'])) (at_ .shdr [] [] [0x05])).result =
    .stream (lit ['1','0','1','0','1']) := by decide
/-- V-RUN-2 -/
theorem test_runTest : (after (.runTest 100) (at_ .rti [] [] [0xB0, 0, 0, 0, 0])).status = .none ∧
    (after (.runTest 100) (at_ .rti [] [] [0xB0, 0, 0, 0, 0])).port =
      [.write [0xB0, 0x64, 0, 0, 0], .read 5 [0xB0, 0, 0, 0, 0]] := by decide
/-- V-RUN-3 -/
theorem test_runTest_mismatch : (after (.runTest 100) (at_ .rti [] [] [0xA0, 0x64, 0, 0, 0])).err = .major := by decide
/-- P1, the pin-level reading of frame 2 -/
theorem test_jframePutTms_pins : (after (.jframePutTms 5 [0x06]) (at_ .tlr [] [] [])).pins =
    [.cycle false false none, .cycle true false none, .cycle true false none, .cycle false false none,
      .cycle false false none] ∧ (after (.jframePutTms 5 [0x06]) (at_ .tlr [] [] [])).physTap = .shir := by decide
/-- P1, the pin-level reading of frame 3 -/
theorem test_jframePutTdi_pins : (after (.jframePutTdi 5 [0x02]) (at_ .shir [] [] [])).pins =
    [.cycle false false none, .cycle false true none, .cycle false false none, .cycle false false none,
      .cycle false false none] := by decide
/-- P1, the pin-level reading of frame 4 -/
theorem test_jframePutTmsTdi_pins : (after (.jframePutTmsTdi 1 [0x01, 0x00]) (at_ .shir [] [] [])).pins =
    [.cycle true false none] ∧ (after (.jframePutTmsTdi 1 [0x01, 0x00]) (at_ .shir [] [] [])).physTap = .e1ir := by decide
/-- R97 -/
theorem test_jframeGetTdo : (after (.jframeGetTdo 3) (at_ .shdr [] [] [0x05])).pins =
    [.cycle false false (some true), .cycle false false (some false), .cycle false false (some true)] ∧
    (after (.jframeGetTdo 3) (at_ .shdr [] [] [0x05])).inbound = [0x05] := by decide
/-- R236 -/
theorem test_jframeGetTdoExit : (after (.jframeGetTdoExit 1) (at_ .shdr [] [] [0xFF])).pins =
    [.cycle true false (some true)] ∧ (after (.jframeGetTdoExit 1) (at_ .shdr [] [] [0xFF])).physTap = .e1dr := by decide
/-- R98, R101 -/
theorem test_rframe : (after (.rframe 100) (at_ .rti [] [] [0xB0, 0, 0, 0, 0])).pins = [.pulses 100 false] ∧
    (after (.rframe 100) (at_ .rti [] [] [0xB0, 0, 0, 0, 0])).inbound = [0xB0, 0, 0, 0, 0] := by decide
/-- R103 (b), R94, R100: a frame with TMS, TDI and a reply, which the engine never emits -/
theorem test_unlisted_frame :
    (match step { at_ .shdr [] [] [0x01] with inputs := [.frame [0xA0, 1, 0, 0, 0, 0x0B, 0x01, 0x00]] } with
      | .next t => t.pins
      | _ => []) = [.cycle true false (some true)] := by decide
/-- R336: a failed read frame leaves replica and target in the Shift state -/
theorem test_failed_read_frame_holds : (after (.shiftTdo 9 true []) (failing .shdr [] [])).physTap = .shdr ∧
    (after (.shiftTdo 9 true []) (failing .shdr [] [])).tapState = .shdr := by decide
/-- R38, R337: what is pending after a failed read is the world's, and a later read returns those bytes first -/
theorem test_failed_read_pending :
    let s := { shortReading .shdr [5, 6, 7] with readAnswers := [.failed .shortRead [6, 9], .ok] }
    let t := after (.shiftTdo 9 false []) s
    t.cause = .shortRead ∧ t.inbound = [6, 9] ∧ (after (.shiftTdo 8 false []) t).result = .stream (bitsOf 8 6) ∧
      (after (.shiftTdo 8 false []) t).inbound = [9, 7] := by decide
/-- R264, R131: an address width above 64 ends the sequence with nothing sent -/
theorem test_memRead_width : (match runSequence (memRead 2 65 8 5 1) (at_ .shdr [] [] []) with
      | .next t => (t.cause, t.port)
      | _ => (.noError, [])) = (.contractViolation .widthRange, []) := by decide
/-- P2: the memory read sends one frame of 50 bits before it reads -/
theorem test_memRead_frame : (match runSequence (memRead 2 8 16 5 2) (at_ .shdr [] [] [0, 0, 0x34, 0x12, 0xFE, 0xCA]) with
      | .next t => (t.port, memReadReply 16 2 (match t.result with | .stream r => r | _ => []))
      | _ => ([], [])) =
    ([.write [0xA0, 0x32, 0, 0, 0, 0x08, 0x05, 0xEB, 0, 0, 0, 0x08, 0x00], .write [0xA0, 0x30, 0, 0, 0, 0x01],
      .read 6 [0, 0, 0x34, 0x12, 0xFE, 0xCA]], [0x1234, 0xCAFE]) := by decide
/-- P2: the combined stream of the memory read -/
theorem test_hostio_stream : val (hostioStream 0x02 (bitsOf 8 5 ++ clientRead) 48) = 0x8000000EB05 := by decide
/-- R110: the status 3 in two bits -/
theorem test_response : responseBits (after (.bsFromInt 1 65) (at_ .inv [] [] [])) = [true, true] := by decide
/-- The step runs the operation of a table word right after reset. -/
theorem test_step_from_reset : ∃ t, step (State.reset.withFetchWord 8 0x41) = .next t := ⟨_, rfl⟩

/-! ## Witnesses: the hypotheses of each statement can be met -/

/-- A state with one request presented. -/
def presenting (x : Input) : State := { at_ .shdr [] [] [] with inputs := [x] }

theorem witness_DecodeOfEncode : params.wf ∧ (Instr.shiftTdi [true, false] true true).wellFormed = true := by decide
theorem witness_DecodesTheSpecsWords : params.wf := by decide
theorem witness_UndefinedOpCode : (0x30 : Byte).toNat ∉ opCodes ∧
    (presenting (.request [0x30])).inputs = .request [0x30] :: [] := by decide
theorem witness_StepRuns : (presenting (.request [0x40])).inputs = .request [0x40] :: [] ∧
    decode (presenting (.request [0x40])).params (.request [0x40]) = .ok .flush ∧ (at_ .shdr [] [] []).inputs = [] := by
  decide
theorem witness_MalformedInput : (presenting (.request [0x40, 0x01])).inputs = .request [0x40, 0x01] :: [] ∧
    decodeRequest [0x40, 0x01] = .error .trailingBits ∧
    (presenting (.frame [0xA0])).inputs = .frame [0xA0] :: [] ∧
    decodeFrame (presenting (.frame [0xA0])).params [0xA0] = .error .unknownFrame ∧
    (presenting (.frame [0x4F])).inputs = .frame (0x4F :: []) :: [] ∧
    (0x4F : Byte) ≠ (presenting (.frame [0x4F])).params.jtagCmd ∧
    (0x4F : Byte) ≠ (presenting (.frame [0x4F])).params.runtestCmd := by decide
theorem witness_MalformedInput_flags :
    (presenting (.frame [0xA0, 1, 0, 0, 0, 0x20])).inputs =
      .frame (jframe (presenting (.frame [0xA0, 1, 0, 0, 0, 0x20])) (1 : BitVec 32).toNat 0x20 []) :: [] ∧
    32 ≤ (0x20 : Byte).toNat ∧
    (presenting (.frame [0xA0, 0, 0, 0, 0, 0x01])).inputs =
      .frame (jframe (presenting (.frame [0xA0, 0, 0, 0, 0, 0x01])) (0 : BitVec 32).toNat 0x01 []) :: [] := by decide
theorem witness_BsFromInt : (64 ≤ 64 ∧ (at_ .inv [] [] []).fits 64 = true) ∧ 64 < 65 := by decide
theorem witness_BsFromBytes : (2 ≤ ([1, 0] : List Byte).length ∧ (at_ .inv [] [] []).fits 2 = true) ∧
    ([1] : List Byte).length < 2 := by decide
theorem witness_BsFromString : ((∀ c ∈ ['0', '1'], c = '0' ∨ c = '1') ∧ (at_ .inv [] [] []).fits ['0', '1'].length = true) ∧
    ∃ c ∈ ['0', 'x'], c ≠ '0' ∧ c ≠ '1' := ⟨⟨by simp, rfl⟩, 'x', by simp⟩
theorem witness_Push : (at_ .inv [] [] []).fits ([true].length + [false].length) = true ∧
    (shallow 1 .inv).fits ([true].length + [false].length) = false ∧ 64 ≤ 64 ∧ 64 < 65 := by decide
theorem witness_Pop : (2 ≤ [true, false].length ∧ (at_ .inv [] [] []).fits [true, false].length = true) ∧
    [true].length < 2 := by decide
theorem witness_Peek : (1 ≤ 1 ∧ 1 ≤ 64 ∧ 1 ≤ [true].length) ∧ (0 < 1 ∨ 64 < 65) ∧ (1 ≤ 2 ∧ 2 ≤ 64 ∧ [true].length < 2) := by
  decide
theorem witness_Concat : (at_ .inv [] [] []).fits ([true].length + [false].length) = true ∧
    [true].length + [false].length ≤ 64 ∧ (shallow 1 .inv).fits ([true].length + [false].length) = false := by decide
theorem witness_Slice : (1 ≤ 2 ∧ 2 ≤ [true, false].length ∧ (at_ .inv [] [] []).fits (2 - 1) = true) ∧
    ([true].length < 2) ∧ 0 < 1 := by decide
theorem witness_ToIntWindow : 1 ≤ 2 ∧ 2 ≤ [true, false].length ∧ [false].length = 2 - 1 ∧
    (∀ i, i < 2 - 1 → [false][i]? = [true, false][1 + i]?) := by decide
theorem witness_ToString : ∀ c ∈ ['0', '1'], c = '0' ∨ c = '1' := by simp
theorem witness_ArithmeticLaws : (2 ≤ 64 ∧ (2 : BitVec 64).toNat < 2 ^ 2 ∧ (at_ .inv [] [] []).fits ([true].length + 2) = true) ∧
    [true].length + [false].length ≤ 64 := by decide
theorem witness_LongResult : (shallow 1 .inv).params.fifoDepth = some 1 ∧ (2 ≤ 64 ∧ 1 < 2) ∧
    (2 ≤ ([1, 0] : List Byte).length ∧ 1 < 2) ∧ ((∀ c ∈ ['0', '1'], c = '0' ∨ c = '1') ∧ 1 < ['0', '1'].length) ∧
    (0 ≤ 2 ∧ 2 ≤ [true, false].length ∧ 1 < 2 - 0) ∧ ((2 + 7) / 8 ≤ ([1] : List Byte).length) :=
  ⟨rfl, by decide, by decide, ⟨by simp, by decide⟩, by decide⟩
theorem witness_Unpack : ((8 + 7) / 8 ≤ ([1] : List Byte).length ∧ (at_ .inv [] [] []).fits 8 = true) ∧
    ([1] : List Byte).length < (9 + 7) / 8 := by decide
theorem witness_RoundTrip : (9 + 7) / 8 = ([1, 2] : List Byte).length := by decide
theorem witness_Interleave : ([1] : List Byte).length = ([2] : List Byte).length ∧
    ([1] : List Byte).length ≠ ([] : List Byte).length := by decide
theorem witness_InterleavedPayload : [true].length = [false].length := by decide
theorem witness_TapTable : TapState.shdr ≠ .inv := by decide
theorem witness_FlushTmsOnly : 0 < (at_ .rti [true] [] []).tmsBuf.length ∧ (at_ .rti [true] [] []).tmsBuf.length < 2 ^ 32 ∧
    (at_ .rti [true] [] []).tdiBuf = [] ∧ (at_ .rti [true] [] []).params.portPresent = true ∧
    (at_ .rti [true] [] []).writeAnswer 0 = .ok := by decide
theorem witness_FlushTmsOnly_overflow : 2 ^ 32 ≤ (unbounded .rti (List.replicate (2 ^ 32) true) []).tmsBuf.length ∧
    (unbounded .rti (List.replicate (2 ^ 32) true) []).tdiBuf = [] :=
  ⟨(List.length_replicate (n := 2 ^ 32) (a := true)).ge, rfl⟩
theorem witness_FlushTdiOnly : (at_ .shdr [] [true] []).tmsBuf = [] ∧ 0 < (at_ .shdr [] [true] []).tdiBuf.length ∧
    (at_ .shdr [] [true] []).tdiBuf.length < 2 ^ 32 ∧ (at_ .shdr [] [true] []).params.portPresent = true ∧
    (at_ .shdr [] [true] []).writeAnswer 0 = .ok := by decide
theorem witness_FlushTdiOnly_overflow : (unbounded .shdr [] (List.replicate (2 ^ 32) true)).tmsBuf = [] ∧
    2 ^ 32 ≤ (unbounded .shdr [] (List.replicate (2 ^ 32) true)).tdiBuf.length :=
  ⟨rfl, (List.length_replicate (n := 2 ^ 32) (a := true)).ge⟩
theorem witness_FlushEqual : 0 < (at_ .e1dr [true] [true] []).tmsBuf.length ∧
    (at_ .e1dr [true] [true] []).tmsBuf.length < 2 ^ 32 ∧
    (at_ .e1dr [true] [true] []).tmsBuf.length = (at_ .e1dr [true] [true] []).tdiBuf.length ∧
    (at_ .e1dr [true] [true] []).params.portPresent = true ∧
    (at_ .e1dr [true] [true] []).writeAnswer 0 = .ok := by decide
theorem witness_FlushEqual_overflow :
    2 ^ 32 ≤ (unbounded .rti (List.replicate (2 ^ 32) true) (List.replicate (2 ^ 32) true)).tmsBuf.length ∧
    (unbounded .rti (List.replicate (2 ^ 32) true) (List.replicate (2 ^ 32) true)).tmsBuf.length =
      (unbounded .rti (List.replicate (2 ^ 32) true) (List.replicate (2 ^ 32) true)).tdiBuf.length :=
  ⟨(List.length_replicate (n := 2 ^ 32) (a := true)).ge, rfl⟩
theorem witness_FlushSplit : (at_ .e1dr [true] [true, false] []).tmsBuf = [true] ∧
    2 ≤ (at_ .e1dr [true] [true, false] []).tdiBuf.length ∧
    (at_ .e1dr [true] [true, false] []).tdiBuf.length - 1 < 2 ^ 32 ∧
    (at_ .e1dr [true] [true, false] []).params.portPresent = true ∧
    (at_ .e1dr [true] [true, false] []).writeAnswer 0 = .ok ∧ (at_ .e1dr [true] [true, false] []).writeAnswer 1 = .ok := by decide
theorem witness_FlushSplit_failing : ((failing .e1dr [true] [true, false]).tmsBuf = [true] ∧
    2 ≤ (failing .e1dr [true] [true, false]).tdiBuf.length ∧
    (failing .e1dr [true] [true, false]).tdiBuf.length - 1 < 2 ^ 32 ∧
    (failing .e1dr [true] [true, false]).params.portPresent = true ∧
    (failing .e1dr [true] [true, false]).writeAnswer 0 = .failed .shortWrite lost) ∧
    (failingSecond .e1dr [true] [true, false]).tmsBuf = [true] ∧
    2 ≤ (failingSecond .e1dr [true] [true, false]).tdiBuf.length ∧
    (failingSecond .e1dr [true] [true, false]).tdiBuf.length - 1 < 2 ^ 32 ∧
    (failingSecond .e1dr [true] [true, false]).params.portPresent = true ∧
    (failingSecond .e1dr [true] [true, false]).writeAnswer 0 = .ok ∧
    (failingSecond .e1dr [true] [true, false]).writeAnswer 1 = .failed .timeout lost := by decide
theorem witness_FlushSplit_overflow : (unbounded .e1dr [true] (List.replicate (2 ^ 32 + 1) true)).tmsBuf = [true] ∧
    2 ^ 32 ≤ (unbounded .e1dr [true] (List.replicate (2 ^ 32 + 1) true)).tdiBuf.length - 1 :=
  ⟨rfl, Nat.le_sub_of_add_le (List.length_replicate (n := 2 ^ 32 + 1) (a := true)).ge⟩
theorem witness_FlushMismatch : 2 ≤ (at_ .tlr [true, true] [true] []).tmsBuf.length ∧
    1 ≤ (at_ .tlr [true, true] [true] []).tdiBuf.length ∧
    (at_ .tlr [true, true] [true] []).tmsBuf.length ≠ (at_ .tlr [true, true] [true] []).tdiBuf.length := by decide
theorem witness_FlushEmpty : (portless .rti [] []).tmsBuf = [] ∧ (portless .rti [] []).tdiBuf = [] := by decide
theorem witness_ResetTap : (shallow 5 .inv).tmsBuf = [] ∧ (shallow 5 .inv).tdiBuf = [] ∧ (shallow 5 .inv).fits 5 = true ∧
    (shallow 5 .inv).params.portPresent = true ∧ (shallow 5 .inv).writeAnswer 0 = .ok ∧
    (shallow 5 .inv).fits ((shallow 5 .inv).tmsBuf.length + 5) = true ∧
    ¬ countTooLong ((shallow 5 .inv).tmsBuf.length + 5) (shallow 5 .inv).tdiBuf.length := by
  decide
theorem witness_ResetTap_refusals :
    ((at_ .shdr [] [true] []).fits ((at_ .shdr [] [true] []).tmsBuf.length + 5) = true ∧
      1 ≤ (at_ .shdr [] [true] []).tdiBuf.length ∧
      (at_ .shdr [] [true] []).tdiBuf.length ≠ (at_ .shdr [] [true] []).tmsBuf.length + 5) ∧
    (shallow 4 .inv).fits ((shallow 4 .inv).tmsBuf.length + 5) = false := by decide
theorem witness_ResetTap_overflow :
    (unbounded .rti (List.replicate (2 ^ 32) true) []).fits
      ((unbounded .rti (List.replicate (2 ^ 32) true) []).tmsBuf.length + 5) = true ∧
    countTooLong ((unbounded .rti (List.replicate (2 ^ 32) true) []).tmsBuf.length + 5)
      (unbounded .rti (List.replicate (2 ^ 32) true) []).tdiBuf.length :=
  ⟨rfl, .inl ⟨rfl, Nat.le_add_right_of_le (List.length_replicate (n := 2 ^ 32) (a := true)).ge⟩⟩
theorem witness_GoThruStates : (at_ .tlr [] [] []).tapState ≠ .inv ∧ ([TapState.rti, .sds] ≠ []) ∧
    walkOk (at_ .tlr [] [] []).tapState [.rti, .sds] = true ∧ (at_ .tlr [] [] []).tmsBuf = [] ∧
    (at_ .tlr [] [] []).tdiBuf = [] ∧ (at_ .tlr [] [] []).fits [TapState.rti, .sds].length = true ∧
    [TapState.rti, .sds].length < 2 ^ 32 ∧ (at_ .tlr [] [] []).params.portPresent = true ∧
    (at_ .tlr [] [] []).writeAnswer 0 = .ok ∧
    (at_ .tlr [] [] []).fits ((at_ .tlr [] [] []).tmsBuf.length + [TapState.rti, .sds].length) = true ∧
    ¬ countTooLong ((at_ .tlr [] [] []).tmsBuf.length + [TapState.rti, .sds].length)
      (at_ .tlr [] [] []).tdiBuf.length := by decide
theorem witness_GoThruStates_refusals : (at_ .inv [] [] []).tapState = .inv ∧ (at_ .rti [] [] []).tapState ≠ .inv ∧
    walkOk (at_ .rti [] [] []).tapState [.shdr] = false ∧ walkOk (at_ .rti [] [] []).tapState [.inv] = false ∧
    ((shallow 1 .tlr).tapState ≠ .inv ∧ walkOk (shallow 1 .tlr).tapState [.rti, .sds] = true ∧
      (shallow 1 .tlr).fits ((shallow 1 .tlr).tmsBuf.length + [TapState.rti, .sds].length) = false) := by decide
theorem witness_GoThruStates_overflow :
    (unbounded .e1dr (List.replicate (2 ^ 32) true) []).tapState ≠ .inv ∧
    walkOk (unbounded .e1dr (List.replicate (2 ^ 32) true) []).tapState [] = true ∧
    (unbounded .e1dr (List.replicate (2 ^ 32) true) []).fits
      ((unbounded .e1dr (List.replicate (2 ^ 32) true) []).tmsBuf.length + ([] : List TapState).length) = true ∧
    countTooLong ((unbounded .e1dr (List.replicate (2 ^ 32) true) []).tmsBuf.length + ([] : List TapState).length)
      (unbounded .e1dr (List.replicate (2 ^ 32) true) []).tdiBuf.length :=
  ⟨TapState.noConfusion, rfl, rfl,
    .inl ⟨rfl, Nat.le_add_right_of_le (List.length_replicate (n := 2 ^ 32) (a := true)).ge⟩⟩
theorem witness_ShiftTdi_refusals : (at_ .rti [] [] []).inShift = false ∧
    ((at_ .shdr [true] [] []).inShift = true ∧ (at_ .shdr [true] [] []).tmsBuf ≠ []) ∧
    ((shallow 1 .shdr).inShift = true ∧ (shallow 1 .shdr).tmsBuf = [] ∧
      (shallow 1 .shdr).fits ((shallow 1 .shdr).tdiBuf.length + [true, true].length) = false) ∧
    ((shallow 0 .shdr).inShift = true ∧ (shallow 0 .shdr).tmsBuf = [] ∧
      (shallow 0 .shdr).fits ((shallow 0 .shdr).tdiBuf.length + ([] : BitStream).length) = true ∧
      (shallow 0 .shdr).fits 1 = false) := by decide
theorem witness_ShiftTdi : (at_ .shdr [] [] []).inShift = true ∧ (at_ .shdr [] [] []).tmsBuf = [] ∧
    (at_ .shdr [] [] []).fits ((at_ .shdr [] [] []).tdiBuf.length + [true].length) = true ∧
    (at_ .shdr [] [] []).fits 1 = true ∧ (at_ .shdr [] [] []).tdiBuf.length + [true].length < 2 ^ 32 + 1 := by decide
theorem le_add_empty {n m : Nat} (h : n = m) : m ≤ n + ([] : BitStream).length := by subst h; exact Nat.le_refl _
theorem witness_ShiftTdi_overflow : (unbounded .shdr [] (List.replicate (2 ^ 32 + 1) true)).inShift = true ∧
    (unbounded .shdr [] (List.replicate (2 ^ 32 + 1) true)).tmsBuf = [] ∧
    2 ^ 32 + 1 ≤ (unbounded .shdr [] (List.replicate (2 ^ 32 + 1) true)).tdiBuf.length + ([] : BitStream).length :=
  ⟨rfl, rfl, le_add_empty (List.length_replicate (n := 2 ^ 32 + 1) (a := true))⟩
theorem witness_ShiftTdiExit : (at_ .shir [] [] []).inShift = true ∧ (at_ .shir [] [] []).tmsBuf = [] ∧
    (at_ .shir [] [] []).tdiBuf = [] ∧ 2 ≤ [true, false].length ∧ [true, false].length ≤ 2 ^ 32 ∧
    (at_ .shir [] [] []).fits [true, false].length = true ∧ (at_ .shir [] [] []).params.portPresent = true ∧
    (at_ .shir [] [] []).writeAnswer 0 = .ok ∧ (at_ .shir [] [] []).writeAnswer 1 = .ok := by decide
theorem witness_ShiftTdiExit_most : (unbounded .shdr [] []).inShift = true ∧ (unbounded .shdr [] []).tmsBuf = [] ∧
    (unbounded .shdr [] []).tdiBuf = [] ∧ 2 ≤ (List.replicate (2 ^ 32) true).length ∧
    (List.replicate (2 ^ 32) true).length ≤ 2 ^ 32 ∧
    (unbounded .shdr [] []).fits (List.replicate (2 ^ 32) true).length = true ∧
    (unbounded .shdr [] []).params.portPresent = true ∧ (unbounded .shdr [] []).writeAnswer 0 = .ok ∧
    (unbounded .shdr [] []).writeAnswer 1 = .ok := by
  rw [List.length_replicate]; decide
theorem witness_ShiftTdoPlain : (at_ .shdr [] [] [0x05]).inShift = true ∧ (at_ .shdr [] [] [0x05]).tmsBuf = [] ∧
    (at_ .shdr [] [] [0x05]).tdiBuf = [] ∧ 0 < 1 ∧ 1 < 2 ^ 32 ∧
    (at_ .shdr [] [] [0x05]).fits ([true].length + 1) = true ∧ (at_ .shdr [] [] [0x05]).params.portPresent = true ∧
    (at_ .shdr [] [] [0x05]).cleanPort ∧ [0x05] = nextReply ((1 + 7) / 8) (at_ .shdr [] [] [0x05]) ∧
    (at_ .shdr [] [] [0x05]).writeAnswer 0 = .ok ∧
    (at_ .shdr [] [] [0x05]).readAnswer 0 = .ok ∧
    (at_ .shdr [] [] [0x05]).fits [true].length = true := by decide
theorem witness_ShiftTdoExit : (at_ .shdr [] [] [0xA5, 0x01]).inShift = true ∧
    (at_ .shdr [] [] [0xA5, 0x01]).tmsBuf = [] ∧ (at_ .shdr [] [] [0xA5, 0x01]).tdiBuf = [] ∧ 2 ≤ 2 ∧ 2 < 2 ^ 32 ∧
    (at_ .shdr [] [] [0xA5, 0x01]).fits (([] : BitStream).length + 2) = true ∧
    (at_ .shdr [] [] [0xA5, 0x01]).params.portPresent = true ∧ (at_ .shdr [] [] [0xA5, 0x01]).cleanPort ∧
    [0xA5] = nextReply ((2 - 1 + 7) / 8) (at_ .shdr [] [] [0xA5, 0x01]) ∧
    0x01 = (at_ .shdr [] [] [0xA5, 0x01]).replyByte ((2 - 1 + 7) / 8) ∧
    (at_ .shdr [] [] [0xA5, 0x01]).writeAnswer 0 = .ok ∧ (at_ .shdr [] [] [0xA5, 0x01]).writeAnswer 1 = .ok ∧
    (at_ .shdr [] [] [0xA5, 0x01]).readAnswer 0 = .ok ∧ (at_ .shdr [] [] [0xA5, 0x01]).readAnswer 1 = .ok := by decide
theorem witness_ShiftTdoExit_one : (at_ .shir [] [] [0xFF]).inShift = true ∧ (at_ .shir [] [] [0xFF]).tmsBuf = [] ∧
    (at_ .shir [] [] [0xFF]).tdiBuf = [] ∧ (at_ .shir [] [] [0xFF]).fits (([] : BitStream).length + 1) = true ∧
    (at_ .shir [] [] [0xFF]).params.portPresent = true ∧ (at_ .shir [] [] [0xFF]).cleanPort ∧
    0xFF = (at_ .shir [] [] [0xFF]).replyByte 0 ∧ (at_ .shir [] [] [0xFF]).writeAnswer 0 = .ok ∧
    (at_ .shir [] [] [0xFF]).readAnswer 0 = .ok := by decide
theorem witness_ShiftTdo_refusals : (at_ .rti [] [] []).inShift = false ∧
    ((at_ .shdr [true] [] []).inShift = true ∧ (at_ .shdr [true] [] []).tmsBuf ≠ []) ∧
    ((at_ .shdr [] [true] []).inShift = true ∧ (at_ .shdr [] [true] []).tmsBuf = [] ∧
      (at_ .shdr [] [true] []).tdiBuf ≠ []) ∧
    ((at_ .shdr [] [] []).inShift = true ∧ (at_ .shdr [] [] []).tmsBuf = [] ∧ (at_ .shdr [] [] []).tdiBuf = [] ∧
      2 ^ 32 ≤ 2 ^ 32) ∧
    ((shallow 1 .shdr).inShift = true ∧ (shallow 1 .shdr).tmsBuf = [] ∧ (shallow 1 .shdr).tdiBuf = [] ∧
      (shallow 1 .shdr).fits ([true].length + 1) = false) := by decide
theorem witness_FailedShiftTdo : exec (.shiftTdo 9 true []) (failing .shdr [] []) =
      .next (after (.shiftTdo 9 true []) (failing .shdr [] [])) ∧
    (after (.shiftTdo 9 true []) (failing .shdr [] [])).cause ≠ .noError ∧ 2 ≤ 9 ∧
    (∃ why d, (failing .shdr [] []).writeAnswer 0 = .failed why d) := ⟨rfl, by decide, by decide, _, _, rfl⟩
theorem witness_FailedShiftTdo_write : (failing .shdr [] []).inShift = true ∧ (failing .shdr [] []).tmsBuf = [] ∧
    (failing .shdr [] []).tdiBuf = [] ∧ 2 ≤ 2 ∧ 2 < 2 ^ 32 ∧ (failing .shdr [] []).fits (([] : BitStream).length + 2) = true ∧
    (failing .shdr [] []).fits (([] : BitStream).length + 1) = true ∧
    (failing .shdr [] []).params.portPresent = true ∧
    (failing .shdr [] []).writeAnswer 0 = .failed .shortWrite lost := by decide
theorem witness_FailedShiftTdo_read : (shortReading .shdr [5, 6]).inShift = true ∧ (shortReading .shdr [5, 6]).tmsBuf = [] ∧
    (shortReading .shdr [5, 6]).tdiBuf = [] ∧ 0 < 9 ∧ 9 < 2 ^ 32 ∧
    (shortReading .shdr [5, 6]).fits (([] : BitStream).length + 9) = true ∧
    (shortReading .shdr [5, 6]).params.portPresent = true ∧ (shortReading .shdr [5, 6]).writeAnswer 0 = .ok ∧
    (shortReading .shdr [5, 6]).readAnswer 0 = .failed .shortRead [6] ∧
    [5, 6] = nextReply ((9 + 7) / 8) (shortReading .shdr [5, 6]) ∧ 5 = (shortReading .shdr [5, 6]).replyByte 0 ∧
    (shortReading .shdr [5, 6]).readAnswer 0 ≠ .ok := by decide
/-- The exit frame of the second clause fails after a first part that succeeded. -/
theorem witness_FailedShiftTdo_exit : (failingSecond .shdr [] []).writeAnswer 0 = .ok ∧
    (failingSecond .shdr [] []).readAnswer 0 = .ok ∧
    (after (.shiftTdo 1 true []) { used 1 1 1 0 (failingSecond .shdr [] []) with inbound := [] }).cause = .timeout := by
  decide
theorem witness_RunTest : (100 < 2 ^ 32 ∧ (at_ .rti [] [] [0xB0, 0, 0, 0, 0]).tmsBuf = [] ∧
    (at_ .rti [] [] [0xB0, 0, 0, 0, 0]).tdiBuf = [] ∧ (at_ .rti [] [] [0xB0, 0, 0, 0, 0]).params.portPresent = true ∧
    (at_ .rti [] [] [0xB0, 0, 0, 0, 0]).cleanPort ∧ (at_ .rti [] [] [0xB0, 0, 0, 0, 0]).writeAnswer 0 = .ok ∧
    (at_ .rti [] [] [0xB0, 0, 0, 0, 0]).readAnswer 0 = .ok ∧
    [0xB0, 0, 0, 0, 0] = nextReply 5 (at_ .rti [] [] [0xB0, 0, 0, 0, 0])) ∧
    ([0xB0, 0, 0, 0, 0] : List Byte).head? = some (at_ .rti [] [] []).params.runtestCmd ∧
    ([0xA0, 0, 0, 0, 0] : List Byte).head? ≠ some (at_ .rti [] [] []).params.runtestCmd ∧
    (at_ .rti [] [] []).tapState = .rti ∧ (at_ .rti [] [] []).physTap = .rti ∧
    (at_ .rti [] [] []).params.runtestTmsLevel = false ∧
    (shortReading .rti [0xB0, 0, 0, 0, 0]).readAnswer 0 = .failed .shortRead [6] ∧
    (failing .rti [] []).writeAnswer 0 = .failed .shortWrite lost := by decide
theorem witness_RunTest_refusals : 2 ^ 32 ≤ 2 ^ 32 ∧ (at_ .e1dr [true] [] []).tmsBuf ≠ [] ∧
    ((at_ .shdr [] [true] []).tmsBuf = [] ∧ (at_ .shdr [] [true] []).tdiBuf ≠ []) := by decide
theorem witness_AbsentPort : (portless .shdr [] []).params.portPresent = false ∧ isRequest (.runTest 1) = true ∧
    exec (.runTest 1) (portless .shdr [] []) = .next (after (.runTest 1) (portless .shdr [] [])) ∧
    (portless .rti [true] []).params.portPresent = false ∧
    (0 < (portless .rti [true] []).tmsBuf.length + (portless .rti [true] []).tdiBuf.length ∧
      ¬ countTooLong (portless .rti [true] []).tmsBuf.length (portless .rti [true] []).tdiBuf.length ∧
      (portless .rti [true] []).tdiBuf = []) ∧
    ((portless .rti [] []).fits ((portless .rti [] []).tmsBuf.length + 5) = true ∧
      ¬ countTooLong ((portless .rti [] []).tmsBuf.length + 5) (portless .rti [] []).tdiBuf.length) ∧
    ((portless .rti [] []).tapState ≠ .inv ∧ walkOk (portless .rti [] []).tapState [.sds] = true ∧
      (portless .rti [] []).fits ((portless .rti [] []).tmsBuf.length + [TapState.sds].length) = true ∧
      ¬ countTooLong ((portless .rti [] []).tmsBuf.length + [TapState.sds].length) (portless .rti [] []).tdiBuf.length) ∧
    ((portless .shdr [] []).inShift = true ∧ (portless .shdr [] []).tmsBuf = [] ∧ (portless .shdr [] []).tdiBuf = [] ∧
      (portless .shdr [] []).fits (([] : BitStream).length + 1) = true ∧
      (portless .shdr [] []).fits ((portless .shdr [] []).tdiBuf.length + [true].length) = true ∧
      (portless .shdr [] []).fits 1 = true) := ⟨rfl, rfl, rfl, by decide⟩
/-- Exactly `2 ^ 32` TDI bits with exit: the split case, whose first frame has one bit less. -/
theorem witness_AbsentPort_most : (portlessUnbounded .shdr).params.portPresent = false ∧
    (portlessUnbounded .shdr).inShift = true ∧ (portlessUnbounded .shdr).tmsBuf = [] ∧
    (portlessUnbounded .shdr).fits
      ((portlessUnbounded .shdr).tdiBuf.length + (List.replicate (2 ^ 32) true).length) = true ∧
    (portlessUnbounded .shdr).fits 1 = true ∧
    (portlessUnbounded .shdr).tdiBuf.length + (List.replicate (2 ^ 32) true).length < 2 ^ 32 + 1 := by
  rw [List.length_replicate]; decide
theorem witness_ErrorExit : isRequest .flush = true ∧
    exec .flush (failing .rti [true] []) = .next (after .flush (failing .rti [true] [])) ∧
    (after .flush (failing .rti [true] [])).cause ≠ .noError ∧
    isViolation (after .flush (failing .rti [true] [])).cause = false ∧
    0 < (failing .rti [true] []).tmsBuf.length ∧ (failing .rti [true] []).tmsBuf.length < 2 ^ 32 ∧
    (failing .rti [true] []).tdiBuf = [] ∧ (failing .rti [true] []).params.portPresent = true ∧
    (failing .rti [true] []).writeAnswer 0 = .failed .shortWrite lost ∧
    ((failing .shdr [] [true]).tmsBuf = [] ∧ 0 < (failing .shdr [] [true]).tdiBuf.length ∧
      (failing .shdr [] [true]).tdiBuf.length < 2 ^ 32) ∧
    (failing .e1dr [true] [true]).tmsBuf.length = (failing .e1dr [true] [true]).tdiBuf.length := ⟨rfl, rfl, by decide⟩
theorem witness_Jframes : [0x05] = nextReply (((8 : BitVec 32).toNat + 7) / 8) (at_ .shdr [] [] [0x05]) ∧
    (presenting (.frame [0xA0, 1, 0, 0, 0, 0x1F, 1, 1])).inputs =
      .frame (jframe (presenting (.frame [0xA0, 1, 0, 0, 0, 0x1F, 1, 1])) (1 : BitVec 32).toNat 0x1F [1, 1]) :: [] ∧
    (0x1F : Byte).toNat < 32 ∧ 1 ≤ (1 : BitVec 32).toNat ∧
    ([1, 1] : List Byte).length = (if (0x1F : Byte).getLsbD 1 then ((1 : BitVec 32).toNat + 7) / 8 else 0) +
      (if (0x1F : Byte).getLsbD 3 then ((1 : BitVec 32).toNat + 7) / 8 else 0) := by decide
theorem witness_Rframe : [0xB0, 0, 0, 0, 0] = nextReply 5 (at_ .rti [] [] [0xB0, 0, 0, 0, 0]) ∧
    (at_ .rti [] [] []).tapState = .rti ∧ (at_ .rti [] [] []).physTap = .rti ∧
    (at_ .rti [] [] []).params.runtestTmsLevel = false := by decide
theorem witness_ErrKeepsMaximum : isRequest .flush = true ∧
    exec .flush (failing .rti [true] []) = .next (after .flush (failing .rti [true] [])) := ⟨rfl, rfl⟩
theorem witness_Violation : isRequest (.shiftTdo 1 false [true]) = true ∧
    exec (.shiftTdo 1 false [true]) (at_ .rti [] [] []) = .next (after (.shiftTdo 1 false [true]) (at_ .rti [] [] [])) ∧
    (after (.shiftTdo 1 false [true]) (at_ .rti [] [] [])).cause = .contractViolation .notInShift := ⟨rfl, rfl, by decide⟩
theorem witness_Causes : isRequest (.runTest 1) = true ∧
    exec (.runTest 1) (at_ .rti [] [] [0, 0, 0, 0, 0]) = .next (after (.runTest 1) (at_ .rti [] [] [0, 0, 0, 0, 0])) ∧
    isViolation (after (.runTest 1) (at_ .rti [] [] [0, 0, 0, 0, 0])).cause = false := ⟨rfl, rfl, by decide⟩
theorem witness_Frames : exec (.size []) (at_ .rti [] [] []) = .next (after (.size []) (at_ .rti [] [] [])) ∧
    isPure (.size []) = true ∧ isRequest (.jframeGetTdo 1) = false ∧
    exec (.shiftTdo 1 false []) (at_ .shdr [] [] [5]) = .next (after (.shiftTdo 1 false []) (at_ .shdr [] [] [5])) ∧
    (after (.shiftTdo 1 false []) (at_ .shdr [] [] [5])).cause = .noError ∧ (at_ .shdr [] [] [5]).cleanPort :=
  ⟨rfl, by decide, by decide, rfl, by decide⟩
theorem witness_StepKeepsInvariant : (presenting (.request [0x40])).Inv ∧
    step (presenting (.request [0x40])) = .next (after .flush (at_ .shdr [] [] [])) := ⟨by decide, rfl⟩
theorem witness_ReplicaTracks : (at_ .shdr [] [true] []).tracks ∧ (at_ .shdr [] [true] []).physTap ≠ .inv ∧
    exec .flush (at_ .shdr [] [true] []) = .next (after .flush (at_ .shdr [] [true] [])) ∧
    (after .flush (at_ .shdr [] [true] [])).cause = .noError ∧
    exec .resetTap (at_ .rti [] [] []) = .next (after .resetTap (at_ .rti [] [] [])) ∧
    (after .resetTap (at_ .rti [] [] [])).cause = .noError ∧
    (at_ .rti [] [] []).tracks ∧ (at_ .rti [] [] []).tapState = .rti ∧
    (at_ .rti [] [] []).params.runtestTmsLevel = false ∧
    (failing .shdr [] []).tracks ∧
    (after (.shiftTdo 9 true []) (failing .shdr [] [])).tapState = (failing .shdr [] []).tapState :=
  ⟨by decide, by decide, rfl, by decide, rfl, by decide⟩
theorem witness_PostConditions : exec (.shiftTdi [true] true false) (at_ .shdr [] [] []) =
      .next (after (.shiftTdi [true] true false) (at_ .shdr [] [] [])) ∧
    isViolation (after (.shiftTdi [true] true false) (at_ .shdr [] [] [])).cause = false ∧
    (after (.shiftTdo 1 true []) (at_ .shdr [] [] [0x01])).cause = .noError ∧
    isViolation (after (.goThruStates [.rti]) (at_ .tlr [] [] [])).cause = false := ⟨rfl, by decide⟩

end Sys2Proof.Tests
end

section
/-! Rules for the shared operations: the end of an operation, what a transfer leaves alone, packed bits on the TMS
pin, the frames of a flush, and the transfers of one operation. -/

namespace Sys2Proof.Machine

open Sys2Proof.Config

/-! ### TAP states -/

theorem isIeee_iff (s : TapState) : isIeee s = true ↔ s ≠ .inv := by simp [isIeee]

theorem runTap_ne_inv {s : TapState} (h : s ≠ .inv) (bits : BitStream) : runTap s bits ≠ .inv := by
  rwa [← isIeee_iff, runTap_isIeee, isIeee_iff]

theorem ieeeState_ne_inv (c : Fin 16) : ieeeState c ≠ .inv := (isIeee_iff _).1 (ieeeState_isIeee c)

theorem isShift_iff (s : TapState) : isShift s = true ↔ s = .shdr ∨ s = .shir := by simp [isShift]

/-- One TMS 1 leaves a Shift state for its Exit1 state. -/
theorem exit_of_isShift {s : TapState} (h : isShift s = true) : nextTap s true = .e1dr ∨ nextTap s true = .e1ir := by
  rcases (isShift_iff s).1 h with rfl | rfl
  · exact .inl rfl
  · exact .inr rfl

theorem exit_ne_of_isShift {s : TapState} (h : isShift s = true) : nextTap s true ≠ s := by
  rcases (isShift_iff s).1 h with rfl | rfl <;> decide

/-- Five ones lead to Test-Logic-Reset from each of the sixteen states (R193). -/
theorem runTap_resetOnes {s : TapState} (h : s ≠ .inv) : runTap s (List.replicate resetOnes true) = .tlr := by
  cases s
  case inv => exact absurd rfl h
  all_goals rfl

/-! ### Widths and counts -/

theorem fitsCount_iff (n : Nat) : fitsCount n = true ↔ n < 2 ^ 32 := decide_eq_true_iff

theorem count32_toNat {n : Nat} (h : n < 2 ^ 32) : (count32 n).toNat = n := by
  simpa [count32] using h

theorem fits_of_params {s t : State} (h : t.params = s.params) (n : Nat) : t.fits n = s.fits n := by
  simp [State.fits, h]

theorem fits_zero (s : State) : s.fits 0 = true := by
  unfold State.fits; split <;> simp

/-! ### The end of an operation -/

@[simp] theorem conclude_params (c : Cause) (r : Result) (s : State) : (conclude c r s).params = s.params := by
  cases c <;> rfl
@[simp] theorem conclude_inputs (c : Cause) (r : Result) (s : State) : (conclude c r s).inputs = s.inputs := by
  cases c <;> rfl
@[simp] theorem conclude_tapState (c : Cause) (r : Result) (s : State) : (conclude c r s).tapState = s.tapState := by
  cases c <;> rfl
@[simp] theorem conclude_cause (c : Cause) (r : Result) (s : State) : (conclude c r s).cause = c := by
  cases c <;> rfl
@[simp] theorem conclude_physTap (c : Cause) (r : Result) (s : State) : (conclude c r s).physTap = s.physTap := by
  cases c <;> rfl
@[simp] theorem conclude_inbound (c : Cause) (r : Result) (s : State) : (conclude c r s).inbound = s.inbound := by
  cases c <;> rfl

theorem conclude_tmsBuf_nil {s : State} (h : s.tmsBuf = []) (c : Cause) (r : Result) :
    (conclude c r s).tmsBuf = [] := by
  cases c <;> first | exact h | rfl

theorem conclude_tdiBuf_nil {s : State} (h : s.tdiBuf = []) (c : Cause) (r : Result) :
    (conclude c r s).tdiBuf = [] := by
  cases c <;> first | exact h | rfl

/-! ### What a transfer leaves alone -/

/-- `t` differs from `s` only behind the port and in the record of the port: the engine's own elements, the parameters
and what is presented are as they were, and the target has not left the sixteen states. -/
structure BehindPort (s t : State) : Prop where
  params : t.params = s.params
  inputs : t.inputs = s.inputs
  tapState : t.tapState = s.tapState
  tmsBuf : t.tmsBuf = s.tmsBuf
  tdiBuf : t.tdiBuf = s.tdiBuf
  err : t.err = s.err
  ieee : s.physTap ≠ .inv → t.physTap ≠ .inv

theorem BehindPort.refl (s : State) : BehindPort s s := ⟨rfl, rfl, rfl, rfl, rfl, rfl, id⟩

theorem BehindPort.trans {s t u : State} (h : BehindPort s t) (k : BehindPort t u) : BehindPort s u :=
  ⟨k.params.trans h.params, k.inputs.trans h.inputs, k.tapState.trans h.tapState, k.tmsBuf.trans h.tmsBuf,
    k.tdiBuf.trans h.tdiBuf, k.err.trans h.err, k.ieee ∘ h.ieee⟩

/-- Stepping the replica on both sides keeps the relation. -/
theorem BehindPort.stepReplica {s t : State} (h : BehindPort s t) (b : Bool) :
    BehindPort { s with tapState := nextTap s.tapState b } { t with tapState := nextTap t.tapState b } :=
  ⟨h.params, h.inputs, congrArg (nextTap · b) h.tapState, h.tmsBuf, h.tdiBuf, h.err, h.ieee⟩

theorem recordWrite_behindPort (x : Transaction) (s : State) : BehindPort s (recordWrite x s) :=
  ⟨rfl, rfl, rfl, rfl, rfl, rfl, id⟩

theorem recordRead_behindPort (x : Transaction) (l : List Byte) (s : State) : BehindPort s (recordRead x l s) :=
  ⟨rfl, rfl, rfl, rfl, rfl, rfl, id⟩

theorem frameTap_ne_inv (f : Frame) {s : State} (h : s.physTap ≠ .inv) : frameTap f s ≠ .inv := by
  cases f with
  | j len flags payload => exact runTap_ne_inv h _
  | r n =>
    simp only [frameTap]
    split
    · exact h
    · exact ieeeState_ne_inv _

theorem brokenTap_ne_inv (f : Frame) {free : TapState} (hf : free ≠ .inv) {s : State} (h : s.physTap ≠ .inv) :
    brokenTap f free s ≠ .inv := by
  cases f <;> simp only [brokenTap] <;> split <;> assumption

theorem deviceFrame_behindPort (f : Frame) (s : State) : BehindPort s (deviceFrame f s) :=
  ⟨rfl, rfl, rfl, rfl, rfl, rfl, frameTap_ne_inv f⟩

theorem disturb_behindPort (f : Frame) (d : Disturbance) (s : State) : BehindPort s (disturb f d s) :=
  ⟨rfl, rfl, rfl, rfl, rfl, rfl, brokenTap_ne_inv f (ieeeState_ne_inv _)⟩

theorem emitFrame_behindPort (f : Frame) (s : State) : BehindPort s (emitFrame f s).2 := by
  rcases emitFrame_cases f s with ⟨_, h⟩ | ⟨_, _, h⟩ | ⟨why, d, _, _, h⟩ <;> rw [h]
  · exact .refl s
  · exact (recordWrite_behindPort _ s).trans (deviceFrame_behindPort f _)
  · exact (recordWrite_behindPort _ s).trans (disturb_behindPort f d _)

theorem portRead_behindPort (n : Nat) (s : State) : BehindPort s (portRead n s).state := by
  rcases portRead_cases n s with ⟨_, h⟩ | ⟨_, _, _, h⟩ | ⟨why, pending, _, _, h⟩ <;> rw [h]
  · exact .refl s
  · exact recordRead_behindPort _ _ s
  · exact recordRead_behindPort _ _ s

theorem portRead_physTap (n : Nat) (s : State) : (portRead n s).state.physTap = s.physTap := by
  rcases portRead_cases n s with ⟨_, h⟩ | ⟨_, _, _, h⟩ | ⟨why, pending, _, _, h⟩ <;> rw [h] <;> rfl

theorem emitAll_behindPort (fs : List Frame) (s : State) : BehindPort s (emitAll fs s).2 := by
  induction fs generalizing s with
  | nil => exact .refl s
  | cons f rest ih =>
    rw [emitAll_cons]
    split
    · exact (emitFrame_behindPort f s).trans (ih _)
    · exact emitFrame_behindPort f s

theorem scanTdo_behindPort (n : Nat) (flags : Byte) (s : State) : BehindPort s (scanTdo n flags s).state := by
  have he := emitFrame_behindPort (.j (count32 n) flags []) s
  rcases scanTdo_cases n flags s with ⟨c, s1, hf, _, h⟩ | ⟨s1, c, s2, y, hf, hr, _, h⟩ | ⟨s1, s2, y, hf, hr, h⟩ <;>
    rw [hf] at he <;> rw [h]
  · exact he
  all_goals
    have hp := portRead_behindPort (ceil8 n) s1
    rw [hr] at hp
    exact he.trans hp

/-! ### No transfer ends as a contract violation -/

theorem isViolation_writeCause (why : WriteFailure) : isViolation (writeCause why) = false := by cases why <;> rfl

theorem isViolation_readCause (why : ReadFailure) : isViolation (readCause why) = false := by cases why <;> rfl

theorem emitFrame_cause (f : Frame) (s : State) : isViolation (emitFrame f s).1 = false := by
  rcases emitFrame_cases f s with ⟨_, h⟩ | ⟨_, _, h⟩ | ⟨why, d, _, _, h⟩ <;> rw [h]
  · rfl
  · rfl
  · exact isViolation_writeCause why

theorem portRead_cause (n : Nat) (s : State) : isViolation (portRead n s).cause = false := by
  rcases portRead_cases n s with ⟨_, h⟩ | ⟨_, _, _, h⟩ | ⟨why, pending, _, _, h⟩ <;> rw [h]
  · rfl
  · rfl
  · exact isViolation_readCause why

theorem emitAll_cause (fs : List Frame) (s : State) : isViolation (emitAll fs s).1 = false := by
  induction fs generalizing s with
  | nil => rfl
  | cons f rest ih =>
    rw [emitAll_cons]
    split
    · exact ih _
    · exact emitFrame_cause f s

theorem scanTdo_cause (n : Nat) (flags : Byte) (s : State) : isViolation (scanTdo n flags s).cause = false := by
  have he := emitFrame_cause (.j (count32 n) flags []) s
  rcases scanTdo_cases n flags s with ⟨c, s1, hf, _, h⟩ | ⟨s1, c, s2, y, hf, hr, _, h⟩ | ⟨s1, s2, y, hf, hr, h⟩ <;>
    rw [h]
  · rwa [hf] at he
  · have hp := portRead_cause (ceil8 n) s1
    rwa [hr] at hp
  · rfl

/-! ### What a completed transfer did -/

theorem emitFrame_ok {f : Frame} {s s' : State} (h : emitFrame f s = (.noError, s')) :
    s' = deviceFrame f (recordWrite (.write (frameBytes s.params f)) s) := by
  rcases emitFrame_cases f s with ⟨_, e⟩ | ⟨_, _, e⟩ | ⟨why, d, _, _, e⟩ <;> rw [e] at h
  · cases h
  · exact (Prod.mk.inj h).2.symm
  · exact absurd (Prod.mk.inj h).1 (writeCause_ne why)

theorem portRead_ok {n : Nat} {s s' : State} {y : List Byte} (h : portRead n s = ⟨.noError, y, s'⟩) :
    n ≤ s.inbound.length ∧ y = s.inbound.take n ∧ s' = recordRead (.read n y) (s.inbound.drop n) s := by
  rcases portRead_cases n s with ⟨_, e⟩ | ⟨_, _, hn, e⟩ | ⟨why, pending, _, _, e⟩ <;> rw [e] at h
  · cases h
  · cases h; exact ⟨hn, rfl, rfl⟩
  · exact absurd (ReadReply.mk.inj h).1 (readCause_ne why)

/-! ### Packed bits -/

theorem getLsbD_byteOf (s : BitStream) {j : Nat} (h : j < 8) : (byteOf s).getLsbD j = s.getD j false := by
  rw [byteOf, BitVec.getLsbD_ofNat, testBit_val]
  simp [h]

theorem bitAt_packBits {s : BitStream} {t : Nat} (h : t < s.length) : bitAt (packBits s) t = s[t] := by
  have hbyte : t / 8 < ceil8 s.length := by unfold ceil8; omega
  have hbit : (packBits s).getD (t / 8) 0 = byteOf (s.drop (8 * (t / 8))) := by
    simp [packBits, hbyte]
  have hpos : 8 * (t / 8) + t % 8 = t := by omega
  rw [bitAt, hbit, getLsbD_byteOf _ (Nat.mod_lt t (by omega))]
  simp [hpos, h]

/-- Unpacking gives back what was packed (R173). -/
theorem unpackBits_packBits (s : BitStream) : unpackBits (packBits s) s.length = s := by
  refine List.ext_getElem (length_unpackBits _ _) fun t _ ht => ?_
  rw [getElem_unpackBits, bitAt_packBits ht]

theorem evenBytes_interleaveBytes (a b : List Byte) (h : a.length = b.length) :
    evenBytes (interleaveBytes a b) = a := by
  induction a generalizing b with
  | nil => simp [interleaveBytes, evenBytes]
  | cons x a ih =>
    cases b with
    | nil => cases h
    | cons y b => exact congrArg (x :: ·) (ih b (Nat.succ.inj h))

/-! ### The TMS levels of a frame -/

/-- A frame without a TMS payload holds TMS at one level (R100). -/
theorem frameTms_static (len : Nat) {flags : Byte} (payload : List Byte) (h : hasFlag flags flagPutTms = false) :
    frameTms len flags payload = List.replicate len (hasFlag flags flagTmsVal) := by
  have hpin : tmsPin flags payload = fun _ => hasFlag flags flagTmsVal := by
    funext t; simp [tmsPin, h]
  simp [frameTms, hpin]

theorem frameTms_flagsTms (bits : BitStream) : frameTms bits.length flagsTms (packBits bits) = bits :=
  unpackBits_packBits bits

theorem frameTms_flagsTmsTdi (a b : BitStream) (h : a.length = b.length) :
    frameTms a.length flagsTmsTdi (interleaveBytes (packBits a) (packBits b)) = a := by
  have hpart : tmsPart flagsTmsTdi (interleaveBytes (packBits a) (packBits b)) = packBits a :=
    evenBytes_interleaveBytes _ _ (by simp [length_packBits, h])
  calc frameTms a.length flagsTmsTdi (interleaveBytes (packBits a) (packBits b))
      = unpackBits (tmsPart flagsTmsTdi (interleaveBytes (packBits a) (packBits b))) a.length := rfl
    _ = a := by rw [hpart, unpackBits_packBits]

/-- The TMS levels a frame gives the target, one per TCK cycle; the pulses of an R-frame are none of these. -/
def tmsLevels : Frame → BitStream
  | .j len flags payload => frameTms len.toNat flags payload
  | .r _ => []

/-- A frame that owes no reply walks the target over its TMS levels. -/
theorem frameTap_of_silent {f : Frame} (h : replyLength f = 0) (s : State) :
    frameTap f s = runTap s.physTap (tmsLevels f) := by
  cases f with
  | j len flags payload => rfl
  | r n => cases h

/-- Frames that owe no reply, all delivered, walk the target over their TMS levels and leave the pending bytes. -/
theorem emitAll_silent {fs : List Frame} (hs : ∀ f ∈ fs, replyLength f = 0) {s t : State}
    (h : emitAll fs s = (.noError, t)) :
    t.physTap = runTap s.physTap (fs.flatMap tmsLevels) ∧ t.inbound = s.inbound := by
  induction fs generalizing s with
  | nil => cases h; exact ⟨rfl, rfl⟩
  | cons f rest ih =>
    have hf : replyLength f = 0 := hs f (by simp)
    rw [emitAll_cons] at h
    split at h
    next hc =>
      have hdev := emitFrame_ok (s' := (emitFrame f s).2) (Prod.ext hc rfl)
      obtain ⟨htap, hin⟩ := ih (fun g hg => hs g (by simp [hg])) h
      rw [hdev] at htap hin
      refine ⟨?_, ?_⟩
      · rw [htap, deviceFrame_physTap, frameTap_of_silent hf, List.flatMap_cons, runTap_append]; rfl
      · rw [hin]; simp [hf, nextReply]
    next hc => exact absurd (congrArg Prod.fst h) hc

/-! ### The frames of a flush -/

theorem flushCase_empty : flushCase 0 0 = .empty := rfl

theorem flushCase_tmsOnly {t : Nat} (h : t ≠ 0) : flushCase t 0 = .tmsOnly := by simp [flushCase, h]

theorem flushCase_tdiOnly {d : Nat} (h : d ≠ 0) : flushCase 0 d = .tdiOnly := by simp [flushCase, h]

theorem flushCase_equal {t : Nat} (h : t ≠ 0) : flushCase t t = .equal := by simp [flushCase, h]

theorem flushCase_split {d : Nat} (h : 2 ≤ d) : flushCase 1 d = .split := by
  simp [flushCase, show d ≠ 0 by omega, show 1 ≠ d by omega]

theorem flushCase_mismatch {t d : Nat} (ht : 2 ≤ t) (hd : d ≠ 0) (h : t ≠ d) : flushCase t d = .mismatch := by
  simp [flushCase, hd, h, show t ≠ 0 by omega, show t ≠ 1 by omega]

/-- What a flush of these buffers writes, case by case (R211 to R214), its counts being below `2^32`. -/
theorem flushFrames_cases {tms tdi : BitStream} (hm : flushCase tms.length tdi.length ≠ .mismatch)
    (hc : flushCounts tms.length tdi.length = true) :
    (tms = [] ∧ tdi = [] ∧ flushFrames tms tdi = []) ∨
      (tdi = [] ∧ tms.length < 2 ^ 32 ∧
        flushFrames tms tdi = [.j (count32 tms.length) flagsTms (packBits tms)]) ∨
      (tms = [] ∧ tdi.length < 2 ^ 32 ∧
        flushFrames tms tdi = [.j (count32 tdi.length) flagsTdi (packBits tdi)]) ∨
      (tms.length = tdi.length ∧ tms.length < 2 ^ 32 ∧
        flushFrames tms tdi =
          [.j (count32 tms.length) flagsTmsTdi (interleaveBytes (packBits tms) (packBits tdi))]) ∨
      (tms.length = 1 ∧ 2 ≤ tdi.length ∧ tdi.length - 1 < 2 ^ 32 ∧
        flushFrames tms tdi =
          [.j (count32 (tdi.length - 1)) flagsTdi (packBits (belowTop tdi 1)),
            .j 1 flagsTmsTdi (interleaveBytes (packBits tms) (packBits (topBits tdi 1)))]) := by
  unfold flushCounts at hc
  unfold flushFrames
  by_cases hd : tdi.length = 0
  · by_cases ht : tms.length = 0
    · rw [ht, hd, flushCase_empty]
      exact .inl ⟨List.length_eq_zero_iff.1 ht, List.length_eq_zero_iff.1 hd, rfl⟩
    · rw [hd, flushCase_tmsOnly ht] at hc ⊢
      exact .inr (.inl ⟨List.length_eq_zero_iff.1 hd, (fitsCount_iff _).1 hc, rfl⟩)
  · by_cases ht : tms.length = 0
    · rw [ht, flushCase_tdiOnly hd] at hc ⊢
      exact .inr (.inr (.inl ⟨List.length_eq_zero_iff.1 ht, (fitsCount_iff _).1 hc, rfl⟩))
    · by_cases he : tms.length = tdi.length
      · rw [← he, flushCase_equal ht] at hc ⊢
        exact .inr (.inr (.inr (.inl ⟨rfl, (fitsCount_iff _).1 hc, rfl⟩)))
      · by_cases h1 : tms.length = 1
        · have h2 : 2 ≤ tdi.length := by omega
          rw [h1, flushCase_split h2] at hc ⊢
          exact .inr (.inr (.inr (.inr ⟨rfl, h2, (fitsCount_iff _).1 hc, rfl⟩)))
        · exact absurd (flushCase_mismatch (by omega) hd he) hm

/-- No frame of a flush asks for a reply. -/
theorem flushFrames_silent {tms tdi : BitStream} (hm : flushCase tms.length tdi.length ≠ .mismatch)
    (hc : flushCounts tms.length tdi.length = true) : ∀ f ∈ flushFrames tms tdi, replyLength f = 0 := by
  rcases flushFrames_cases hm hc with ⟨_, _, h⟩ | ⟨_, _, h⟩ | ⟨_, _, h⟩ | ⟨_, _, h⟩ | ⟨_, _, _, h⟩ <;> rw [h]
  · simp
  all_goals simp [replyLength, show hasFlag flagsTms flagGetTdo = false by decide,
    show hasFlag flagsTdi flagGetTdo = false by decide, show hasFlag flagsTmsTdi flagGetTdo = false by decide]

/-- The TDI bits beyond the queued TMS bits go out with TMS low, then the TMS bits do. -/
theorem flushFrames_tmsLevels {tms tdi : BitStream} (hm : flushCase tms.length tdi.length ≠ .mismatch)
    (hc : flushCounts tms.length tdi.length = true) :
    (flushFrames tms tdi).flatMap tmsLevels = List.replicate (tdi.length - tms.length) false ++ tms := by
  have hlow (n : Nat) (hn : n < 2 ^ 32) (payload : List Byte) :
      tmsLevels (.j (count32 n) flagsTdi payload) = List.replicate n false := by
    rw [tmsLevels, count32_toNat hn, frameTms_static n payload (by decide)]; rfl
  rcases flushFrames_cases hm hc with ⟨ht, hd, h⟩ | ⟨hd, hn, h⟩ | ⟨ht, hn, h⟩ | ⟨he, hn, h⟩ | ⟨h1, h2, hn, h⟩ <;> rw [h]
  · simp [ht, hd]
  · simp [hd, tmsLevels, count32_toNat hn, frameTms_flagsTms]
  · simp [ht, hlow _ hn]
  · simp [← he, tmsLevels, count32_toNat hn, frameTms_flagsTmsTdi tms tdi he]
  · have hlast : tmsLevels (.j 1 flagsTmsTdi (interleaveBytes (packBits tms) (packBits (topBits tdi 1)))) = tms := by
      have ht := frameTms_flagsTmsTdi tms (topBits tdi 1) (by rw [h1, length_topBits _ _ (by omega)])
      rwa [h1] at ht
    simp only [List.flatMap_cons, List.flatMap_nil, List.append_nil, hlow _ hn, hlast, h1]

/-- A flush that completed has walked the target over everything queued, TDI first, and left the pending bytes. -/
theorem flushBuffers_ok {s : State} (hc : flushCounts s.tmsBuf.length s.tdiBuf.length = true)
    (h : (flushBuffers s).cause = .noError) :
    (flushBuffers s).physTap =
        runTap s.physTap (List.replicate (s.tdiBuf.length - s.tmsBuf.length) false ++ s.tmsBuf) ∧
      (flushBuffers s).inbound = s.inbound := by
  rcases flushBuffers_cases s with ⟨_, e⟩ | ⟨c, t, hm, ht, ⟨rfl, e⟩ | ⟨hne, e⟩⟩ <;> rw [e] at h ⊢
  · cases h
  · rw [← flushFrames_tmsLevels hm hc]
    have hall := emitAll_silent (flushFrames_silent hm hc) ht
    exact hall
  · exact absurd h hne

/-! ### Transfers of one operation -/

/-- The transfers of an operation began in `s` and ended with the cause `c` in the state `t`: nothing but what lies behind
the port has changed, and where they completed no reply byte is left over (10_state.md R38). -/
structure Transferred (s : State) (c : Cause) (t : State) : Prop extends BehindPort s t where
  ordinary : isViolation c = false
  clean : c = .noError → s.cleanPort → t.cleanPort

/-- A reply read in full leaves a clean port clean. -/
theorem cleanPort_of_reply {f : Frame} {n : Nat} {y : List Byte} {s s1 s2 : State}
    (he : emitFrame f s = (.noError, s1)) (hr : portRead n s1 = ⟨.noError, y, s2⟩) (hn : replyLength f = n)
    (hs : s.cleanPort) : s2.cleanPort := by
  obtain ⟨_, _, rfl⟩ := portRead_ok hr
  have hin : s1.inbound = nextReply n (recordWrite (.write (frameBytes s.params f)) s) := by
    rw [emitFrame_ok he, deviceFrame_inbound, hn, recordWrite_inbound, hs, List.nil_append]
  have hlen : s1.inbound.length = n := by rw [hin, length_nextReply]
  rw [State.cleanPort, recordRead_inbound, ← hlen, List.drop_length]

theorem scanTdo_transferred {n : Nat} (hn : n < 2 ^ 32) {flags : Byte} (hget : hasFlag flags flagGetTdo = true)
    (s : State) : Transferred s (scanTdo n flags s).cause (scanTdo n flags s).state := by
  refine ⟨scanTdo_behindPort n flags s, scanTdo_cause n flags s, fun hok hs => ?_⟩
  rcases scanTdo_cases n flags s with ⟨c, s1, _, hc, h⟩ | ⟨s1, c, s2, y, _, _, hc, h⟩ | ⟨s1, s2, y, hf, hr, h⟩ <;>
    rw [h] at hok ⊢
  · exact absurd hok hc
  · exact absurd hok hc
  · exact cleanPort_of_reply hf hr (by simp [replyLength, hget, count32_toNat hn]) hs

/-- The read of a scan leaves the target where the frame brought it. -/
theorem scanTdo_physTap (n : Nat) (flags : Byte) (s : State) :
    (scanTdo n flags s).state.physTap = (emitFrame (.j (count32 n) flags []) s).2.physTap := by
  rcases scanTdo_cases n flags s with ⟨c, s1, hf, _, h⟩ | ⟨s1, c, s2, y, hf, hr, _, h⟩ | ⟨s1, s2, y, hf, hr, h⟩ <;>
    rw [h, hf]
  all_goals
    have hp := portRead_physTap (ceil8 n) s1
    rwa [hr] at hp

/-- A read with TMS low keeps the target in its Shift state, delivered or not (70 R336). -/
theorem scanTdo_read_physTap (n : Nat) {s : State} (h : isShift s.physTap = true) :
    (scanTdo n flagsRead s).state.physTap = s.physTap := by
  rw [scanTdo_physTap]
  rcases emitFrame_cases (.j (count32 n) flagsRead []) s with ⟨_, e⟩ | ⟨_, _, e⟩ | ⟨why, d, _, _, e⟩ <;> rw [e]
  · have hlow := frameTms_static (count32 n).toNat (flags := flagsRead) [] (by decide)
    rw [show hasFlag flagsRead flagTmsVal = false by decide] at hlow
    simp only [deviceFrame_physTap, frameTap, recordWrite_physTap, hlow, runTap_hold _ h]
  · exact brokenTap_read (count32 n) [] (ieeeState d.tap) (recordWrite _ s) h

/-- A completed exit read has taken the target one step with TMS high. -/
theorem scanTdo_exit_physTap {s : State} (h : (scanTdo 1 flagsExit s).cause = .noError) :
    (scanTdo 1 flagsExit s).state.physTap = nextTap s.physTap true := by
  rw [scanTdo_physTap]
  rcases scanTdo_cases 1 flagsExit s with ⟨c, s1, _, hc, e⟩ | ⟨s1, c, s2, y, _, _, hc, e⟩ | ⟨s1, s2, y, hf, hr, e⟩
  · rw [e] at h; exact absurd h hc
  · rw [e] at h; exact absurd h hc
  · rw [hf, emitFrame_ok hf]; rfl

/-- Pulses that hold the target leave it where it is, delivered or not (70 R339). -/
theorem emitFrame_pulses_physTap (n : BitVec 32) {s : State} (h : pulsesHold s = true) :
    (emitFrame (.r n) s).2.physTap = s.physTap := by
  have hrec (x : Transaction) : pulsesHold (recordWrite x s) = true := h
  rcases emitFrame_cases (.r n) s with ⟨_, e⟩ | ⟨_, _, e⟩ | ⟨why, d, _, _, e⟩ <;> rw [e]
  · simp [frameTap, hrec]
  · simp [brokenTap, hrec]

/-- A flush empties the buffers, makes its transfers, and concludes. -/
theorem flushBuffers_concludes {s : State} (hc : flushCounts s.tmsBuf.length s.tdiBuf.length = true) :
    ∃ c t, Transferred { s with tmsBuf := [], tdiBuf := [] } c t ∧ flushBuffers s = conclude c .none t := by
  rcases flushBuffers_cases s with ⟨_, e⟩ | ⟨c, t, hm, ht, hend⟩
  · exact ⟨.lengthMismatch, _, ⟨.refl _, rfl, by simp⟩, e⟩
  · have hb := emitAll_behindPort (flushFrames s.tmsBuf s.tdiBuf) { s with tmsBuf := [], tdiBuf := [] }
    have hv := emitAll_cause (flushFrames s.tmsBuf s.tdiBuf) { s with tmsBuf := [], tdiBuf := [] }
    rw [ht] at hb hv
    refine ⟨c, t, ⟨hb, hv, ?_⟩, ?_⟩
    · rintro rfl hs
      exact (emitAll_silent (flushFrames_silent hm hc) ht).2.trans hs
    · rcases hend with ⟨rfl, e⟩ | ⟨hne, e⟩
      · rw [e, conclude_noError]
      · rw [e, conclude_error _ _ _ hne]

/-- A read with TMS low makes its transfers, which hold a target in a Shift state, and concludes (R235). -/
theorem readPlain_concludes {n : Nat} (hn : n < 2 ^ 32) (out : BitStream) (s : State) :
    ∃ c r t, Transferred s c t ∧ (isShift s.physTap = true → t.physTap = s.physTap) ∧
      readPlain n out s = conclude c r t := by
  by_cases h0 : n = 0
  · exact ⟨.noError, .stream out, s, ⟨.refl s, rfl, fun _ => id⟩, fun _ => rfl, by simp [readPlain, h0, conclude]⟩
  · have ht := scanTdo_transferred hn (flags := flagsRead) (by decide) s
    have hp := fun h => scanTdo_read_physTap n (s := s) h
    rcases hs : scanTdo n flagsRead s with ⟨c, bits, t⟩
    rw [hs] at ht hp
    cases c <;> exact ⟨_, _, t, ht, hp, by simp only [readPlain, h0, hs, if_false]; rfl⟩

/-- The final bit of an exit read: the replica is stepped, then the transfers are made, and where they complete the
target has made the same step (R236). -/
theorem readExit_concludes (first out : BitStream) (s : State) :
    ∃ c r t, Transferred { s with tapState := nextTap s.tapState true } c t ∧
      (c = .noError → t.physTap = nextTap s.physTap true) ∧ readExit first out s = conclude c r t := by
  have ht := scanTdo_transferred (n := 1) (by decide) (flags := flagsExit) (by decide)
    { s with tapState := nextTap s.tapState true }
  have hp := fun h => scanTdo_exit_physTap (s := { s with tapState := nextTap s.tapState true }) h
  rcases hs : scanTdo 1 flagsExit { s with tapState := nextTap s.tapState true } with ⟨c, bits, t⟩
  rw [hs] at ht hp
  cases c <;> exact ⟨_, _, t, ht, hp, by simp only [readExit, hs]; rfl⟩

/-- A read with exit fails before the exit is committed, the replica and a target in a Shift state staying, or it steps the
replica, and where it completes the target has made the same step (R236). -/
theorem readThenExit_concludes {n : Nat} (hn : n < 2 ^ 32) (out : BitStream) (s : State) :
    (∃ c t, c ≠ .noError ∧ Transferred s c t ∧ (isShift s.physTap = true → t.physTap = s.physTap) ∧
        readThenExit n out s = raised c (.stream out) t) ∨
      (∃ c r t, Transferred { s with tapState := nextTap s.tapState true } c t ∧
        (c = .noError → isShift s.physTap = true → t.physTap = nextTap s.physTap true) ∧
        readThenExit n out s = conclude c r t) := by
  by_cases h1 : n ≤ 1
  · obtain ⟨c, r, t, ht, hp, h⟩ := readExit_concludes [] out s
    exact .inr ⟨c, r, t, ht, fun hc _ => hp hc, by simp only [readThenExit, h1, if_true, h]⟩
  · have ht := scanTdo_transferred (n := n - 1) (by omega) (flags := flagsRead) (by decide) s
    have hp := fun h => scanTdo_read_physTap (n - 1) (s := s) h
    rcases hs : scanTdo (n - 1) flagsRead s with ⟨c, bits, s1⟩
    rw [hs] at ht hp
    by_cases hc : c = .noError
    · subst hc
      obtain ⟨c, r, t, ht', hp', h⟩ := readExit_concludes bits out s1
      refine .inr ⟨c, r, t, ⟨(ht.toBehindPort.stepReplica true).trans ht'.toBehindPort, ht'.ordinary,
        fun hc hs => ht'.clean hc (ht.clean rfl hs)⟩, fun hc hshift => ?_, ?_⟩
      · rw [hp' hc, hp hshift]
      · simp only [readThenExit, h1, if_false, hs, h]
    · refine .inl ⟨c, s1, hc, ht, hp, ?_⟩
      cases c <;> first | exact absurd rfl hc | (simp only [readThenExit, h1, if_false, hs]; rfl)

/-- The body of `run_test` makes its transfers, which leave a target that the pulses hold, and concludes (R240). -/
theorem execRunTest_concludes (n : Nat) (s : State) :
    ∃ c t, Transferred s c t ∧ (pulsesHold s = true → t.physTap = s.physTap) ∧
      execRunTest n s = .next (guarded
        [(fitsCount n, .lenOverflow), (s.tmsEmpty, .tmsNotEmpty), (s.tdiEmpty, .tdiNotEmpty)] .none s
        (conclude c .none t)) := by
  have hb := emitFrame_behindPort (.r (count32 n)) s
  have hv := emitFrame_cause (.r (count32 n)) s
  have hp := fun h => emitFrame_pulses_physTap (count32 n) (s := s) h
  rcases he : emitFrame (.r (count32 n)) s with ⟨c, s1⟩
  rw [he] at hb hv hp
  by_cases hc : c = .noError
  · subst hc
    have hb2 := portRead_behindPort echoBytes s1
    have hv2 := portRead_cause echoBytes s1
    have hp2 := portRead_physTap echoBytes s1
    rcases hr : portRead echoBytes s1 with ⟨c, y, s2⟩
    rw [hr] at hb2 hv2 hp2
    have hclean : c = .noError → s.cleanPort → s2.cleanPort := by
      rintro rfl hs; exact cleanPort_of_reply he hr rfl hs
    have hold : pulsesHold s = true → s2.physTap = s.physTap := fun h => hp2.trans (hp h)
    by_cases hc : c = .noError
    · subst hc
      by_cases hecho : y.head? = some s2.params.runtestCmd
      · exact ⟨.noError, s2, ⟨hb.trans hb2, rfl, hclean⟩, hold, by
          simp only [execRunTest, he, hr, checkEcho, hecho, if_true]; rfl⟩
      · exact ⟨.echoMismatch, s2, ⟨hb.trans hb2, rfl, by simp⟩, hold, by
          simp only [execRunTest, he, hr, checkEcho, hecho, if_false]; rfl⟩
    · refine ⟨c, s2, ⟨hb.trans hb2, hv2, fun h => absurd h hc⟩, hold, ?_⟩
      cases c <;> first | exact absurd rfl hc | (simp only [execRunTest, he, hr]; rfl)
  · refine ⟨c, s1, ⟨hb, hv, fun h => absurd h hc⟩, hp, ?_⟩
    cases c <;> first | exact absurd rfl hc | (simp only [execRunTest, he]; rfl)

end Sys2Proof.Machine
end

section
/-! What running an instruction can leave, said once: every proof about `exec` of an unknown instruction is a case split
on `Ran`. -/

namespace Sys2Proof.Machine

open Sys2Proof.Config

/-! ### What an instruction can do -/

/-- The state in which `shift_tdi` has queued its bits, and the exit bit where there is one (R230). -/
def queueShift (bits : BitStream) (exitShift : Bool) (s : State) : State :=
  if exitShift then queueTms { s with tdiBuf := s.tdiBuf ++ bits } true else { s with tdiBuf := s.tdiBuf ++ bits }

@[simp] theorem queueShift_params (bits : BitStream) (e : Bool) (s : State) :
    (queueShift bits e s).params = s.params := by cases e <;> rfl
@[simp] theorem queueShift_inputs (bits : BitStream) (e : Bool) (s : State) :
    (queueShift bits e s).inputs = s.inputs := by cases e <;> rfl
@[simp] theorem queueShift_physTap (bits : BitStream) (e : Bool) (s : State) :
    (queueShift bits e s).physTap = s.physTap := by cases e <;> rfl
@[simp] theorem queueShift_inbound (bits : BitStream) (e : Bool) (s : State) :
    (queueShift bits e s).inbound = s.inbound := by cases e <;> rfl
@[simp] theorem queueShift_tdiBuf (bits : BitStream) (e : Bool) (s : State) :
    (queueShift bits e s).tdiBuf = s.tdiBuf ++ bits := by cases e <;> rfl
theorem queueShift_tmsBuf (bits : BitStream) (e : Bool) (s : State) :
    (queueShift bits e s).tmsBuf = s.tmsBuf ++ if e then [true] else [] := by
  cases e <;> simp [queueShift]
theorem queueShift_tapState (bits : BitStream) (e : Bool) (s : State) :
    (queueShift bits e s).tapState = if e then nextTap s.tapState true else s.tapState := by
  cases e <;> rfl

/-- An operation that ends in a flush has queued its bits in `s`, its checks holding, and flushes `q`. -/
inductive Queues (s : State) : Instr → State → Prop where
  | flush : Queues s .flush s
  | resetTap : Queues s .resetTap { s with tmsBuf := s.tmsBuf ++ List.replicate resetOnes true, tapState := .tlr }
  | goThruStates {targets : List TapState} {bits : BitStream} (walk : walkBits s.tapState targets = some bits) :
      Queues s (.goThruStates targets)
        { s with tmsBuf := s.tmsBuf ++ bits, tapState := runTap s.tapState bits }
  | shiftTdi (bits : BitStream) (exitShift : Bool) (shift : isShift s.tapState = true) (tms : s.tmsBuf = []) :
      Queues s (.shiftTdi bits exitShift true) (queueShift bits exitShift s)

/-- What an instruction that runs in `s` can leave: the contract violation of one of its checks, the answer of a pure
operation, the device's act on a frame, a flush, bits queued by a `shift_tdi` without flush, or what the transfers of
a read or of a `run_test` leave. -/
inductive Ran (s : State) : Instr → State → Prop where
  | refused {i : Instr} (k : Check) (request : isRequest i = true) : Ran s i (violated k (refusedResult i) s)
  | answered {i : Instr} (r : Result) (pure : isPure i = true) : Ran s i (answered r s)
  | frame {i : Instr} {f : Frame} (frame : frameOf i = some f) : Ran s i (deviceFrame f s)
  | flushed {i : Instr} {q : State} (queues : Queues s i q)
      (counts : flushCounts q.tmsBuf.length q.tdiBuf.length = true) : Ran s i (flushBuffers q)
  | queued (bits : BitStream) (exitShift : Bool) (shift : isShift s.tapState = true) (tms : s.tmsBuf = [])
      (room : s.fits (queueShift bits exitShift s).tdiBuf.length = true)
      (roomTms : s.fits (queueShift bits exitShift s).tmsBuf.length = true) :
      Ran s (.shiftTdi bits exitShift false) (answered .none (queueShift bits exitShift s))
  | read {n : Nat} (out : BitStream) (shift : isShift s.tapState = true) (tms : s.tmsBuf = []) (tdi : s.tdiBuf = [])
      (count : n < 2 ^ 32) : Ran s (.shiftTdo n false out) (readPlain n out s)
  | readExit {n : Nat} (out : BitStream) (shift : isShift s.tapState = true) (tms : s.tmsBuf = [])
      (tdi : s.tdiBuf = []) (count : n < 2 ^ 32) (pos : 1 ≤ n) :
      Ran s (.shiftTdo n true out) (readThenExit n out s)
  | pulsed {n : Nat} {c : Cause} {t : State} (tms : s.tmsBuf = []) (tdi : s.tdiBuf = []) (count : n < 2 ^ 32)
      (transferred : Transferred s c t) (hold : pulsesHold s = true → t.physTap = s.physTap) :
      Ran s (.runTest n) (conclude c .none t)

theorem exec_frame {i : Instr} {f : Frame} (h : frameOf i = some f) (s : State) :
    exec i s = .next (deviceFrame f s) := by
  cases i <;> first | (cases h; done) | (cases h; rfl)

/-- A pure operation gives its answer behind its checks. -/
theorem exec_pure {i : Instr} (h : isPure i = true) (s : State) : ∃ checks r, exec i s = answer checks r s := by
  cases i <;> first | exact absurd h Bool.false_ne_true | exact ⟨_, _, rfl⟩

theorem refusedResult_of_isPure {i : Instr} (h : isPure i = true) : refusedResult i = .none := by
  cases i <;> first | rfl | exact absurd h Bool.false_ne_true

theorem isRequest_of_isPure {i : Instr} (h : isPure i = true) : isRequest i = true := by
  cases i <;> first | rfl | exact absurd h Bool.false_ne_true

/-- An operation behind its checks is refused or, all of them holding, has done what its body does. -/
theorem ran_of_guarded {i : Instr} {s t after : State} {checks : List (Bool × Check)} {r : Result}
    (request : isRequest i = true) (hr : r = refusedResult i)
    (h : Host.Outcome.next (guarded checks r s after) = (.next t : Host.Outcome State Fault Refusal))
    (body : (∀ c ∈ checks, c.1 = true) → Ran s i after) : Ran s i t := by
  cases h
  rcases guarded_cases checks r s after with ⟨hall, e⟩ | ⟨k, _, _, e⟩ <;> rw [e]
  · exact body hall
  · rw [hr]; exact .refused k request

theorem execGoThruStates_ran {targets : List TapState} {s t : State}
    (h : exec (.goThruStates targets) s = .next t) : Ran s (.goThruStates targets) t := by
  refine ran_of_guarded rfl rfl h fun hall => ?_
  simp only [List.forall_mem_cons] at hall
  obtain ⟨_, _, hwalk, _, hcounts, _⟩ := hall
  obtain ⟨bits, hbits⟩ := Option.isSome_iff_exists.1 hwalk
  rw [hbits, Option.getD_some, queueAll_eq]
  refine .flushed (.goThruStates hbits) ?_
  simpa [(walkBits_spec _ _ _ hbits).1] using hcounts

theorem execShiftTdi_ran {bits : BitStream} {e f : Bool} {s t : State}
    (h : exec (.shiftTdi bits e f) s = .next t) : Ran s (.shiftTdi bits e f) t := by
  refine ran_of_guarded rfl rfl h fun hall => ?_
  simp only [List.forall_mem_cons] at hall
  obtain ⟨hshift, htms, hroom, hroomTms, hcounts, _⟩ := hall
  have htms : s.tmsBuf = [] := List.isEmpty_iff.1 htms
  cases f with
  | false =>
    refine .queued bits e hshift htms (by simpa using hroom) ?_
    cases e
    · simpa [queueShift_tmsBuf, htms] using fits_zero s
    · simpa [queueShift_tmsBuf, htms] using hroomTms
  | true =>
    refine .flushed (.shiftTdi bits e hshift htms) ?_
    cases e <;> simpa [queueShift_tmsBuf, htms] using hcounts

theorem execShiftTdo_ran {n : Nat} {e : Bool} {out : BitStream} {s t : State}
    (h : exec (.shiftTdo n e out) s = .next t) : Ran s (.shiftTdo n e out) t := by
  refine ran_of_guarded rfl rfl h fun hall => ?_
  simp only [List.forall_mem_cons] at hall
  obtain ⟨hshift, htms, htdi, hcount, hpos, _⟩ := hall
  have htms : s.tmsBuf = [] := List.isEmpty_iff.1 htms
  have htdi : s.tdiBuf = [] := List.isEmpty_iff.1 htdi
  have hcount := (fitsCount_iff n).1 hcount
  cases e with
  | false => exact .read out hshift htms htdi hcount
  | true => exact .readExit out hshift htms htdi hcount (of_decide_eq_true hpos)

theorem execRunTest_ran {n : Nat} {s t : State} (h : exec (.runTest n) s = .next t) : Ran s (.runTest n) t := by
  obtain ⟨c, u, htrans, hold, e⟩ := execRunTest_concludes n s
  refine ran_of_guarded rfl rfl (e.symm.trans h) fun hall => ?_
  simp only [List.forall_mem_cons] at hall
  obtain ⟨hcount, htms, htdi, _⟩ := hall
  exact .pulsed (List.isEmpty_iff.1 htms) (List.isEmpty_iff.1 htdi) ((fitsCount_iff n).1 hcount) htrans hold

/-- Every instruction that answers a next state has run in one of the ways of `Ran`. -/
theorem exec_ran {i : Instr} {s t : State} (h : exec i s = .next t) : Ran s i t := by
  cases hf : frameOf i with
  | some f => rw [exec_frame hf] at h; cases h; exact .frame hf
  | none =>
    cases hp : isPure i with
    | true =>
      obtain ⟨checks, r, e⟩ := exec_pure hp s
      exact ran_of_guarded (isRequest_of_isPure hp) (refusedResult_of_isPure hp).symm (e.symm.trans h)
        fun _ => by rw [complete_noError]; exact .answered r hp
    | false =>
      cases i
      case flush => exact ran_of_guarded rfl rfl h fun hall => .flushed .flush (hall _ List.mem_cons_self)
      case resetTap =>
        exact ran_of_guarded rfl rfl h fun hall =>
          .flushed .resetTap (by simpa using hall _ (List.mem_cons_of_mem _ List.mem_cons_self))
      case goThruStates targets => exact execGoThruStates_ran h
      case shiftTdi bits e f => exact execShiftTdi_ran h
      case shiftTdo n e out => exact execShiftTdo_ran h
      case runTest n => exact execRunTest_ran h
      all_goals first | (cases hf; done) | cases hp

end Sys2Proof.Machine
end

section
/-! The statements of 10_state.md: the invariant, reset, the frames of the instructions, and the agreement of the
replica with the target. -/

namespace Sys2Proof.Machine

open Sys2Proof.Config

/-- Queuing bits changes nothing that a flush does not send or empty. -/
theorem Queues.kept {s q : State} {i : Instr} (h : Queues s i q) :
    q.params = s.params ∧ q.inputs = s.inputs ∧ q.physTap = s.physTap ∧ q.inbound = s.inbound := by
  cases h with
  | flush => exact ⟨rfl, rfl, rfl, rfl⟩
  | resetTap => exact ⟨rfl, rfl, rfl, rfl⟩
  | goThruStates walk => exact ⟨rfl, rfl, rfl, rfl⟩
  | shiftTdi bits e shift tms => simp

/-! ### The invariant of R30 and R34 -/

theorem BehindPort.inv {s t : State} (h : BehindPort s t) (hs : s.Inv) : t.Inv := by
  obtain ⟨⟨hwf, htap, htms, htdi⟩, hrule⟩ := hs
  refine ⟨⟨h.params ▸ hwf, h.ieee htap, ?_, ?_⟩, ?_⟩
  · rwa [fits_of_params h.params, h.tmsBuf]
  · rwa [fits_of_params h.params, h.tdiBuf]
  · rwa [State.bufferRule, State.inShift, h.tmsBuf, h.tdiBuf, h.tapState]

/-- Transfers made with empty buffers conclude in a state with the invariant. -/
theorem Transferred.conclude_inv {s t : State} {c : Cause} (h : Transferred s c t) (hwf : s.params.wf)
    (htap : s.physTap ≠ .inv) (htms : s.tmsBuf = []) (htdi : s.tdiBuf = []) (r : Result) : (conclude c r t).Inv := by
  have hms := conclude_tmsBuf_nil (h.tmsBuf.trans htms) c r
  have hdi := conclude_tdiBuf_nil (h.tdiBuf.trans htdi) c r
  refine ⟨⟨?_, ?_, ?_, ?_⟩, .inl ⟨hms, .inl hdi⟩⟩
  · rw [conclude_params, h.params]; exact hwf
  · rw [conclude_physTap]; exact h.ieee htap
  · rw [hms]; exact fits_zero _
  · rw [hdi]; exact fits_zero _

/-- Bits that `shift_tdi` queues in a Shift state keep the invariant. -/
theorem queueShift_inv {bits : BitStream} {e : Bool} {s : State} (hs : s.Inv) (shift : isShift s.tapState = true)
    (tms : s.tmsBuf = []) (room : s.fits (queueShift bits e s).tdiBuf.length = true)
    (roomTms : s.fits (queueShift bits e s).tmsBuf.length = true) : (queueShift bits e s).Inv := by
  obtain ⟨⟨hwf, htap, _, _⟩, _⟩ := hs
  have hp := queueShift_params bits e s
  refine ⟨⟨hp.symm ▸ hwf, (queueShift_physTap bits e s).symm ▸ htap, ?_, ?_⟩, ?_⟩
  · rwa [fits_of_params hp]
  · rwa [fits_of_params hp]
  · cases e with
    | false => exact .inl ⟨tms, .inr shift⟩
    | true => exact .inr ⟨by simp [queueShift_tmsBuf, tms], exit_of_isShift shift⟩

theorem exec_inv {i : Instr} {s t : State} (hs : s.Inv) (h : exec i s = .next t) : t.Inv := by
  have hwf := hs.1.1
  have htap := hs.1.2.1
  cases exec_ran h with
  | refused k request => exact hs
  | answered r pure => exact hs
  | frame hf => exact (deviceFrame_behindPort _ s).inv hs
  | @flushed _ q queues counts =>
    obtain ⟨hp, _, ht, _⟩ := queues.kept
    obtain ⟨c, u, htrans, e⟩ := flushBuffers_concludes counts
    rw [e]
    exact htrans.conclude_inv (hp.symm ▸ hwf) (ht.symm ▸ htap) rfl rfl .none
  | queued bits e shift tms room roomTms => exact queueShift_inv hs shift tms room roomTms
  | read out shift tms tdi count =>
    obtain ⟨c, r, u, htrans, _, e⟩ := readPlain_concludes count out s
    rw [e]
    exact htrans.conclude_inv hwf htap tms tdi r
  | readExit out shift tms tdi count pos =>
    rcases readThenExit_concludes count out s with ⟨c, u, hc, htrans, _, e⟩ | ⟨c, r, u, htrans, _, e⟩ <;> rw [e]
    · rw [← conclude_error c _ u hc]
      exact htrans.conclude_inv hwf htap tms tdi _
    · exact htrans.conclude_inv hwf htap tms tdi r
  | pulsed tms tdi count transferred hold => exact transferred.conclude_inv hwf htap tms tdi .none

/-- Settles O57: each way a step can go keeps the invariant, the flushes and reads because they conclude with empty
buffers. -/
theorem stepKeepsInvariant : Obligations.StepKeepsInvariant := by
  intro s t hs h
  have htake : (takeInput s).Inv := hs
  unfold step at h
  rcases fetch_cases s with ⟨_, e⟩ | ⟨x, rest, i, _, _, e⟩ | ⟨x, rest, _, _, e⟩ | ⟨x, rest, f, _, _, e⟩ |
    ⟨x, rest, _, _, _, e | e⟩ <;> rw [e] at h
  · cases h; exact hs
  · exact exec_inv htake h
  · cases h; exact htake
  · cases h; exact (deviceFrame_behindPort f _).inv htake
  · cases h
  · cases h

/-! ### The first step and the state after reset -/

/-- Settles O4: the head of `inputs` is fetched, and the state it runs in has the rest presented. -/
theorem stepRunsDecodedInstruction : Obligations.StepRunsDecodedInstruction := by
  refine ⟨fun s x rest i hin hd => ?_, fun s hin => ?_⟩
  · have htake : takeInput s = { s with inputs := rest } := by rw [takeInput, hin, List.tail_cons]
    simp only [step, fetch, hin, hd, htake]
  · simp only [step, fetch, hin]

/-- The two frame opcodes differ in every configuration (decision D4). -/
theorem configured_wf : configured.wf := by
  refine ⟨fun h => ?_, by decide⟩
  have hgap := runtestGap.isLt
  have hz : BitVec.ofNat 8 (runtestGap.val + 1) = 0#8 := by simpa [configured] using h
  have hval := congrArg BitVec.toNat hz
  simp only [BitVec.toNat_ofNat] at hval
  omega

/-- Settles O58: the fields as they are written, with empty buffers that fit any depth and a free target of the sixteen
states. -/
theorem resetStateAndInvariant : Obligations.ResetStateAndInvariant :=
  ⟨rfl, rfl, rfl, rfl, rfl, rfl, rfl,
    ⟨configured_wf, ieeeState_ne_inv _, fits_zero _, fits_zero _⟩, .inl ⟨rfl, .inl rfl⟩⟩

/-! ### Frames of the instructions -/

theorem exec_params_inputs {i : Instr} {s t : State} (h : exec i s = .next t) :
    t.params = s.params ∧ t.inputs = s.inputs := by
  cases exec_ran h with
  | refused k request => exact ⟨rfl, rfl⟩
  | answered r pure => exact ⟨rfl, rfl⟩
  | frame hf => exact ⟨rfl, rfl⟩
  | flushed queues counts =>
    obtain ⟨hp, hi, _, _⟩ := queues.kept
    obtain ⟨c, u, htrans, e⟩ := flushBuffers_concludes counts
    rw [e, conclude_params, conclude_inputs]
    exact ⟨htrans.params.trans hp, htrans.inputs.trans hi⟩
  | queued bits e shift tms room roomTms => simp
  | read out shift tms tdi count =>
    obtain ⟨c, r, u, htrans, _, e⟩ := readPlain_concludes count out s
    rw [e, conclude_params, conclude_inputs]
    exact ⟨htrans.params, htrans.inputs⟩
  | readExit out shift tms tdi count pos =>
    rcases readThenExit_concludes count out s with ⟨c, u, _, htrans, _, e⟩ | ⟨c, r, u, htrans, _, e⟩ <;> rw [e]
    · exact ⟨htrans.params, htrans.inputs⟩
    · rw [conclude_params, conclude_inputs]; exact ⟨htrans.params, htrans.inputs⟩
  | pulsed tms tdi count transferred hold =>
    rw [conclude_params, conclude_inputs]; exact ⟨transferred.params, transferred.inputs⟩

/-- A pure operation is refused or answers. -/
theorem exec_pure_cases {i : Instr} {s t : State} (hp : isPure i = true) (h : exec i s = .next t) :
    (∃ k, t = violated k .none s) ∨ ∃ r, t = answered r s := by
  obtain ⟨checks, r, e⟩ := exec_pure hp s
  rw [e, answer, complete_noError] at h
  cases h
  rcases guarded_cases checks .none s (answered r s) with ⟨_, e⟩ | ⟨k, _, _, e⟩
  · exact .inr ⟨r, e⟩
  · exact .inl ⟨k, e⟩

theorem Transferred.conclude_cleanPort {s t : State} {c : Cause} (h : Transferred s c t) (hs : s.cleanPort) {r : Result}
    (hok : (conclude c r t).cause = .noError) : (conclude c r t).cleanPort :=
  (conclude_inbound c r t).trans (h.clean ((conclude_cause c r t).symm.trans hok) hs)

/-- A clean port is clean after an operation that completed (R38). -/
theorem exec_cleanPort {i : Instr} {s t : State} (hi : isRequest i = true) (h : exec i s = .next t)
    (hok : t.cause = .noError) (hs : s.cleanPort) : t.cleanPort := by
  cases exec_ran h with
  | refused k request => exact hs
  | answered r pure => exact hs
  | frame hf => rw [isRequest, hf] at hi; cases hi
  | flushed queues counts =>
    obtain ⟨_, _, _, hin⟩ := queues.kept
    obtain ⟨c, u, htrans, e⟩ := flushBuffers_concludes counts
    rw [e] at hok ⊢
    exact htrans.conclude_cleanPort (hin.trans hs) hok
  | queued bits e shift tms room roomTms => exact (queueShift_inbound bits e s).trans hs
  | read out shift tms tdi count =>
    obtain ⟨c, r, u, htrans, _, e⟩ := readPlain_concludes count out s
    rw [e] at hok ⊢
    exact htrans.conclude_cleanPort hs hok
  | readExit out shift tms tdi count pos =>
    rcases readThenExit_concludes count out s with ⟨c, u, hc, _, _, e⟩ | ⟨c, r, u, htrans, _, e⟩ <;> rw [e] at hok ⊢
    · exact absurd hok hc
    · exact htrans.conclude_cleanPort hs hok
  | pulsed tms tdi count transferred hold => exact transferred.conclude_cleanPort hs hok

theorem execFlush_tapState {s t : State} (h : exec .flush s = .next t) : t.tapState = s.tapState := by
  cases exec_ran h with
  | refused k request => rfl
  | answered r pure => cases pure
  | frame hf => cases hf
  | flushed queues counts =>
    cases queues
    obtain ⟨c, u, htrans, e⟩ := flushBuffers_concludes counts
    rw [e, conclude_tapState, htrans.tapState]

theorem execShiftTdi_tapState {bits : BitStream} {f : Bool} {s t : State}
    (h : exec (.shiftTdi bits false f) s = .next t) : t.tapState = s.tapState := by
  cases exec_ran h with
  | refused k request => rfl
  | answered r pure => cases pure
  | frame hf => cases hf
  | flushed queues counts =>
    cases queues
    obtain ⟨c, u, htrans, e⟩ := flushBuffers_concludes counts
    rw [e, conclude_tapState, htrans.tapState]
    exact queueShift_tapState bits false s
  | queued => exact queueShift_tapState bits false s

/-- Transfers made with empty buffers conclude with the buffers they began with. -/
theorem Transferred.conclude_buffers {s t : State} {c : Cause} (h : Transferred s c t) (htms : s.tmsBuf = [])
    (htdi : s.tdiBuf = []) (r : Result) :
    (conclude c r t).tmsBuf = s.tmsBuf ∧ (conclude c r t).tdiBuf = s.tdiBuf :=
  ⟨(conclude_tmsBuf_nil (h.tmsBuf.trans htms) c r).trans htms.symm,
    (conclude_tdiBuf_nil (h.tdiBuf.trans htdi) c r).trans htdi.symm⟩

theorem execRunTest_frame {n : Nat} {s t : State} (h : exec (.runTest n) s = .next t) :
    t.tapState = s.tapState ∧ t.tmsBuf = s.tmsBuf ∧ t.tdiBuf = s.tdiBuf := by
  cases exec_ran h with
  | refused k request => exact ⟨rfl, rfl, rfl⟩
  | answered r pure => cases pure
  | frame hf => cases hf
  | flushed queues counts => cases queues
  | pulsed tms tdi count transferred hold =>
    exact ⟨(conclude_tapState _ _ _).trans transferred.tapState, transferred.conclude_buffers tms tdi .none⟩

theorem execShiftTdo_buffers {n : Nat} {e : Bool} {out : BitStream} {s t : State}
    (h : exec (.shiftTdo n e out) s = .next t) : t.tmsBuf = s.tmsBuf ∧ t.tdiBuf = s.tdiBuf := by
  cases exec_ran h with
  | refused k request => exact ⟨rfl, rfl⟩
  | answered r pure => cases pure
  | frame hf => cases hf
  | flushed queues counts => cases queues
  | read out shift tms tdi count =>
    obtain ⟨c, r, u, htrans, _, e⟩ := readPlain_concludes count out s
    rw [e]; exact htrans.conclude_buffers tms tdi r
  | readExit out shift tms tdi count pos =>
    rcases readThenExit_concludes count out s with ⟨c, u, hc, htrans, _, e⟩ | ⟨c, r, u, htrans, _, e⟩ <;> rw [e]
    · rw [← conclude_error c _ u hc]; exact htrans.conclude_buffers tms tdi _
    · exact htrans.conclude_buffers tms tdi r

theorem execShiftTdo_tapState {n : Nat} {out : BitStream} {s t : State}
    (h : exec (.shiftTdo n false out) s = .next t) : t.tapState = s.tapState := by
  cases exec_ran h with
  | refused k request => rfl
  | answered r pure => cases pure
  | frame hf => cases hf
  | flushed queues counts => cases queues
  | read out shift tms tdi count =>
    obtain ⟨c, r, u, htrans, _, e⟩ := readPlain_concludes count out s
    rw [e, conclude_tapState, htrans.tapState]

/-- What is no request is a frame, and the device's act. -/
theorem exec_of_not_request {i : Instr} {s t : State} (hi : isRequest i = false) (h : exec i s = .next t) :
    ∃ f, t = deviceFrame f s := by
  obtain ⟨f, hf⟩ := Option.isSome_iff_exists.1 (show (frameOf i).isSome = true by simpa [isRequest] using hi)
  rw [exec_frame hf] at h
  cases h
  exact ⟨f, rfl⟩

/-- Settles O55, clause by clause. -/
theorem framesOfInstructions : Obligations.FramesOfInstructions := by
  intro s t i h
  refine ⟨exec_params_inputs h, fun hp => ?_, fun hi => exec_cleanPort hi h, ?_, ?_, ?_, ?_, ?_, fun hi => ?_⟩
  · rcases exec_pure_cases hp h with ⟨k, rfl⟩ | ⟨r, rfl⟩ <;> rfl
  · rintro rfl; exact execFlush_tapState h
  · rintro ⟨n, rfl⟩; exact execRunTest_frame h
  · rintro ⟨bits, f, rfl⟩; exact execShiftTdi_tapState h
  · rintro ⟨n, e, out, rfl⟩; exact execShiftTdo_buffers h
  · rintro ⟨n, out, rfl⟩; exact execShiftTdo_tapState h
  · obtain ⟨f, rfl⟩ := exec_of_not_request hi h
    exact ⟨rfl, rfl, rfl, rfl, rfl, rfl, rfl⟩

/-! ### The replica and the target -/

/-- Nothing is queued and the two states are equal: the replica and the target agree. -/
theorem tracks_of_empty {t : State} (htms : t.tmsBuf = []) (htdi : t.tdiBuf = []) (h : t.physTap = t.tapState) :
    t.tracks := .inl ⟨htms, h, .inl htdi⟩

/-- A replica that agrees with the target, with nothing queued on TMS, equals it. -/
theorem physTap_of_tracks {s : State} (h : s.tracks) (htms : s.tmsBuf = []) : s.physTap = s.tapState := by
  rcases h with ⟨_, h, _⟩ | ⟨h, _, _⟩
  · exact h
  · rw [htms] at h; cases h

/-- Where replica and target agree, sending what is queued, TDI bits beyond the TMS bits first, brings the target where
the replica stands. -/
theorem runTap_of_tracks {s : State} (h : s.tracks) (m : Nat) :
    runTap s.physTap (List.replicate (s.tdiBuf.length - m) false ++ s.tmsBuf) = s.tapState := by
  rcases h with ⟨htms, htap, htdi | hshift⟩ | ⟨htms, hshift, htap⟩
  · simp [htms, htdi, runTap, htap]
  · rw [htms, List.append_nil, htap, runTap_hold _ hshift]
  · rw [htms, runTap_append, runTap_hold _ hshift, htap]; rfl

/-- Bits that `shift_tdi` queues in a Shift state are counted. -/
theorem queueShift_tracks {bits : BitStream} {e : Bool} {s : State} (hs : s.tracks) (shift : isShift s.tapState = true)
    (tms : s.tmsBuf = []) : (queueShift bits e s).tracks := by
  have htap := physTap_of_tracks hs tms
  cases e with
  | false => exact .inl ⟨tms, htap, .inr shift⟩
  | true => exact .inr ⟨by simp [queueShift_tmsBuf, tms], htap ▸ shift, congrArg (nextTap · true) htap.symm⟩

/-- Whatever was queued before, the five ones at the end of it bring the target to Test-Logic-Reset. -/
theorem runTap_append_resetOnes {s : TapState} (h : s ≠ .inv) (before tms : BitStream) :
    runTap s (before ++ (tms ++ List.replicate resetOnes true)) = .tlr := by
  rw [← List.append_assoc, runTap_append, runTap_resetOnes (runTap_ne_inv h _)]

/-- Sending all that an operation has queued brings the target where the replica stands. -/
theorem Queues.runTap_physTap {s q : State} {i : Instr} (h : Queues s i q) (hs : s.tracks) (htap : s.physTap ≠ .inv) :
    runTap q.physTap (List.replicate (q.tdiBuf.length - q.tmsBuf.length) false ++ q.tmsBuf) = q.tapState := by
  cases h with
  | flush => exact runTap_of_tracks hs _
  | resetTap => exact runTap_append_resetOnes htap _ _
  | goThruStates walk => rw [← List.append_assoc, runTap_append, runTap_of_tracks hs]
  | shiftTdi bits e shift tms => exact runTap_of_tracks (queueShift_tracks hs shift tms) _

/-- A completed flush leaves replica and target in agreement where all that was queued brings the one to the other. -/
theorem flushBuffers_tracks {q : State} (hc : flushCounts q.tmsBuf.length q.tdiBuf.length = true)
    (hok : (flushBuffers q).cause = .noError)
    (h : runTap q.physTap (List.replicate (q.tdiBuf.length - q.tmsBuf.length) false ++ q.tmsBuf) = q.tapState) :
    (flushBuffers q).tracks ∧ (flushBuffers q).tapState = q.tapState := by
  have htap := (flushBuffers_ok hc hok).1.trans h
  obtain ⟨c, t, htrans, e⟩ := flushBuffers_concludes hc
  have hrep : (flushBuffers q).tapState = q.tapState := by rw [e, conclude_tapState]; exact htrans.tapState
  refine ⟨tracks_of_empty ?_ ?_ (htap.trans hrep.symm), hrep⟩
  · rw [e]; exact conclude_tmsBuf_nil htrans.tmsBuf c _
  · rw [e]; exact conclude_tdiBuf_nil htrans.tdiBuf c _

/-- Transfers made with empty buffers that bring the target where the replica stands conclude in agreement. -/
theorem Transferred.conclude_tracks {s t : State} {c : Cause} (h : Transferred s c t) (htms : s.tmsBuf = [])
    (htdi : s.tdiBuf = []) (htap : t.physTap = s.tapState) (r : Result) : (conclude c r t).tracks := by
  obtain ⟨hms, hdi⟩ := h.conclude_buffers htms htdi r
  refine tracks_of_empty (hms.trans htms) (hdi.trans htdi) ?_
  rw [conclude_physTap, conclude_tapState, htap, h.tapState]

theorem Transferred.conclude_physTap_ne_inv {s t : State} {c : Cause} (h : Transferred s c t)
    (htap : s.physTap ≠ .inv) (r : Result) : (conclude c r t).physTap ≠ .inv := by
  rw [conclude_physTap]; exact h.ieee htap

/-- Transfers end as no contract violation, so what completed or was refused has completed. -/
theorem Transferred.ok {s t : State} {c : Cause} (h : Transferred s c t) {r : Result}
    (hc : (conclude c r t).cause = .noError ∨ isViolation (conclude c r t).cause = true) : c = .noError := by
  rw [conclude_cause, h.ordinary] at hc
  exact hc.resolve_right Bool.false_ne_true

/-- A `shift_tdo` that has not stepped the replica leaves the agreement, however its transfers ended (70 R336). -/
theorem execShiftTdo_tracks {n : Nat} {e : Bool} {out : BitStream} {s t : State} (hs : s.tracks)
    (h : exec (.shiftTdo n e out) s = .next t) (hstill : e = false ∨ t.tapState = s.tapState) : t.tracks := by
  cases exec_ran h with
  | refused k request => exact hs
  | answered r pure => cases pure
  | frame hf => cases hf
  | flushed queues counts => cases queues
  | read out shift tms tdi count =>
    have htap := physTap_of_tracks hs tms
    obtain ⟨c, r, u, htrans, hold, e⟩ := readPlain_concludes count out s
    rw [e]
    exact htrans.conclude_tracks tms tdi ((hold (htap ▸ shift)).trans htap) r
  | readExit out shift tms tdi count pos =>
    have htap := physTap_of_tracks hs tms
    rcases readThenExit_concludes count out s with ⟨c, u, hc, htrans, hold, e⟩ | ⟨c, r, u, htrans, _, e⟩
    · rw [e, ← conclude_error c _ u hc]
      exact htrans.conclude_tracks tms tdi ((hold (htap ▸ shift)).trans htap) _
    · have hstep : (readThenExit n out s).tapState = nextTap s.tapState true := by
        rw [e, conclude_tapState]; exact htrans.tapState
      exact absurd (hstep.symm.trans (hstill.resolve_left (by decide))) (exit_ne_of_isShift shift)

/-- A `run_test` in Run-Test/Idle with TMS low leaves the agreement, however its transfers ended (70 R339). -/
theorem execRunTest_tracks {n : Nat} {s t : State} (hs : s.tracks) (hrti : s.tapState = .rti)
    (hlow : s.params.runtestTmsLevel = false) (h : exec (.runTest n) s = .next t) : t.tracks := by
  cases exec_ran h with
  | refused k request => exact hs
  | answered r pure => cases pure
  | frame hf => cases hf
  | flushed queues counts => cases queues
  | pulsed tms tdi count transferred hold =>
    have htap := physTap_of_tracks hs tms
    have hpulses : pulsesHold s = true := (pulsesHold_iff s).2 ⟨hrti, htap.trans hrti, hlow⟩
    exact transferred.conclude_tracks tms tdi ((hold hpulses).trans htap) .none

/-- A completed `reset_tap` brings replica and target together from any state of the target (70 R325). -/
theorem execResetTap_tracks {s t : State} (htap : s.physTap ≠ .inv) (h : exec .resetTap s = .next t)
    (hok : t.cause = .noError) : t.tracks ∧ t.physTap = .tlr ∧ t.tapState = .tlr := by
  cases exec_ran h with
  | refused k request => cases hok
  | answered r pure => cases pure
  | frame hf => cases hf
  | flushed queues counts =>
    cases queues
    have hreset := runTap_append_resetOnes htap
      (List.replicate (s.tdiBuf.length - (s.tmsBuf ++ List.replicate resetOnes true).length) false) s.tmsBuf
    obtain ⟨htracks, hrep⟩ := flushBuffers_tracks counts hok hreset
    exact ⟨htracks, (flushBuffers_ok counts hok).1.trans hreset, hrep⟩

/-- The target stays one of the sixteen states. -/
theorem exec_physTap_ne_inv {i : Instr} {s t : State} (htap : s.physTap ≠ .inv) (h : exec i s = .next t) :
    t.physTap ≠ .inv := by
  cases exec_ran h with
  | refused k request => exact htap
  | answered r pure => exact htap
  | frame hf => exact frameTap_ne_inv _ htap
  | flushed queues counts =>
    obtain ⟨_, _, hphys, _⟩ := queues.kept
    obtain ⟨c, u, htrans, e⟩ := flushBuffers_concludes counts
    rw [e]; exact htrans.conclude_physTap_ne_inv (hphys.symm ▸ htap) _
  | queued bits e shift tms room roomTms => exact (queueShift_physTap bits e s).symm ▸ htap
  | read out shift tms tdi count =>
    obtain ⟨c, r, u, htrans, _, e⟩ := readPlain_concludes count out s
    rw [e]; exact htrans.conclude_physTap_ne_inv htap r
  | readExit out shift tms tdi count pos =>
    rcases readThenExit_concludes count out s with ⟨c, u, _, htrans, _, e⟩ | ⟨c, r, u, htrans, _, e⟩ <;> rw [e]
    · exact htrans.ieee htap
    · exact htrans.conclude_physTap_ne_inv htap r
  | pulsed tms tdi count transferred hold => exact transferred.conclude_physTap_ne_inv htap _

/-- An operation that completed or was refused leaves the agreement; a `run_test` under the premise of R339. -/
theorem exec_tracks {i : Instr} {s t : State} (hs : s.tracks) (htap : s.physTap ≠ .inv) (hi : isRequest i = true)
    (h : exec i s = .next t) (hend : t.cause = .noError ∨ isViolation t.cause = true)
    (hpulses : (∃ n, i = .runTest n) → s.tapState = .rti ∧ s.params.runtestTmsLevel = false) : t.tracks := by
  cases exec_ran h with
  | refused k request => exact hs
  | answered r pure => exact hs
  | frame hf => rw [isRequest, hf] at hi; cases hi
  | @flushed _ q queues counts =>
    obtain ⟨c, u, htrans, e⟩ := flushBuffers_concludes counts
    have hok : (flushBuffers q).cause = .noError := by
      rw [e] at hend ⊢; exact (conclude_cause _ _ _).trans (htrans.ok hend)
    exact (flushBuffers_tracks counts hok (queues.runTap_physTap hs htap)).1
  | queued bits e shift tms room roomTms => exact queueShift_tracks hs shift tms
  | read => exact execShiftTdo_tracks hs h (.inl rfl)
  | readExit out shift tms tdi count pos =>
    have hphys := physTap_of_tracks hs tms
    rcases readThenExit_concludes count out s with ⟨c, u, hc, htrans, hold, e⟩ | ⟨c, r, u, htrans, hstep, e⟩
    · rw [e, ← conclude_error c _ u hc]
      exact htrans.conclude_tracks tms tdi ((hold (hphys ▸ shift)).trans hphys) _
    · rw [e] at hend ⊢
      exact htrans.conclude_tracks tms tdi
        ((hstep (htrans.ok hend) (hphys ▸ shift)).trans (congrArg (nextTap · true) hphys)) r
  | pulsed =>
    obtain ⟨hrti, hlow⟩ := hpulses ⟨_, rfl⟩
    exact execRunTest_tracks hs hrti hlow h

/-- Settles O59, clause by clause. -/
theorem replicaTracksTarget : Obligations.ReplicaTracksTarget :=
  ⟨fun _ _ _ hs htap hi h hend hpulses => ⟨exec_tracks hs htap hi h hend hpulses, exec_physTap_ne_inv htap h⟩,
    fun _ _ htap h hok => execResetTap_tracks htap h hok,
    fun _ _ _ _ _ hs h hstill => execShiftTdo_tracks hs h hstill,
    fun _ _ _ hs hrti hlow h => execRunTest_tracks hs hrti hlow h⟩

end Sys2Proof.Machine
end

section
/-! The statement of 20_memory.md about an absent port: no frame is delivered, so nothing behind the port moves, and the
operation that reaches a transfer ends as `NullPort` (R64). -/

namespace Sys2Proof.Machine

/-! ### The checks of the sequencer operations -/

/-- An operation whose checks all hold does what its body does: the other way to `ran_of_guarded`. -/
theorem next_guarded {checks : List (Bool × Check)} {r : Result} {s after t : State}
    (hall : ∀ c ∈ checks, c.1 = true) (e : after = t) :
    Host.Outcome.next (guarded checks r s after) = (.next t : Host.Outcome State Fault Refusal) := by
  rw [guarded, (firstFailure_none checks).2 hall, e]

/-- The count check of a flush refuses just the lengths that are too long for a frame (R217). -/
theorem flushCounts_iff (t d : Nat) : flushCounts t d = true ↔ ¬ countTooLong t d := by
  unfold flushCounts
  by_cases hd : d = 0
  · subst hd
    by_cases ht : t = 0
    · subst ht; simp [flushCase_empty]
    · rw [flushCase_tmsOnly ht, fitsCount_iff]; omega
  · by_cases ht : t = 0
    · subst ht; rw [flushCase_tdiOnly hd, fitsCount_iff]; omega
    · by_cases he : t = d
      · subst he; rw [flushCase_equal ht, fitsCount_iff]; omega
      · by_cases h1 : t = 1
        · subst h1; rw [flushCase_split (by omega), fitsCount_iff]; omega
        · rw [flushCase_mismatch (by omega) hd he]; simp only [true_iff]; omega

/-- A flush selects a mismatch only with TDI bits beside two or more TMS bits of another count (R210). -/
theorem flushCase_ne_mismatch {t d : Nat} (h : d = 0 ∨ t ≤ 1 ∨ t = d) : flushCase t d ≠ .mismatch := by
  intro hmismatch
  unfold flushCase at hmismatch
  split_ifs at hmismatch
  omega

/-- A flush with bits queued that is no mismatch has a frame to write. -/
theorem flushFrames_ne_nil {tms tdi : BitStream} (hm : flushCase tms.length tdi.length ≠ .mismatch)
    (hc : flushCounts tms.length tdi.length = true) (hpos : 0 < tms.length + tdi.length) :
    flushFrames tms tdi ≠ [] := by
  rcases flushFrames_cases hm hc with ⟨ht, hd, _⟩ | ⟨_, _, h⟩ | ⟨_, _, h⟩ | ⟨_, _, h⟩ | ⟨_, _, _, h⟩
  · simp [ht, hd] at hpos
  all_goals rw [h]; exact List.cons_ne_nil _ _

/-- A target one TMS step away has a hop bit. -/
theorem hopBit_isSome {c t : TapState} (h : nextTap c true = t ∨ nextTap c false = t) : (hopBit c t).isSome = true := by
  unfold hopBit
  split
  · rfl
  · next htrue => rw [if_pos (h.resolve_left htrue)]; rfl

/-- A walk in order passes the validation pass of R225. -/
theorem walkBits_of_walkOk {c : TapState} {targets : List TapState} (h : walkOk c targets = true) :
    targets.all isIeee = true ∧ ∃ bits, walkBits c targets = some bits := by
  induction targets generalizing c with
  | nil => exact ⟨rfl, [], rfl⟩
  | cons t rest ih =>
    simp only [walkOk, Bool.and_eq_true, Bool.or_eq_true, beq_iff_eq] at h
    obtain ⟨⟨hhop, hieee⟩, hrest⟩ := h
    obtain ⟨hall, bits, hbits⟩ := ih hrest
    obtain ⟨b, hb⟩ := Option.isSome_iff_exists.1 (hopBit_isSome hhop)
    exact ⟨by rw [List.all_cons, hall, Bool.and_true]; exact hieee, b :: bits, by simp only [walkBits, hb, hbits]⟩

/-! ### Transfers with no port -/

theorem emitFrame_absent {s : State} (hp : s.params.portPresent = false) (f : Frame) :
    emitFrame f s = (.nullPort, s) := by
  simp [emitFrame, hp]

theorem emitAll_absent {s : State} (hp : s.params.portPresent = false) (fs : List Frame) :
    emitAll fs s = (if fs = [] then .noError else .nullPort, s) := by
  cases fs with
  | nil => rfl
  | cons f rest => simp [emitAll_cons, emitFrame_absent hp]

theorem scanTdo_absent {s : State} (hp : s.params.portPresent = false) (n : Nat) (flags : Byte) :
    scanTdo n flags s = ⟨.nullPort, [], s⟩ := by
  simp [scanTdo, emitFrame_absent hp]

/-- With no port a flush of `t` TMS bits and `d` TDI bits fails at its first frame (R64). -/
theorem flushBuffers_absent {q : State} {t d : Nat} (hp : q.params.portPresent = false) (htms : q.tmsBuf.length = t)
    (htdi : q.tdiBuf.length = d) (hpos : 0 < t + d) (hc : flushCounts t d = true) (hm : d = 0 ∨ t ≤ 1 ∨ t = d) :
    flushBuffers q = raised .nullPort .none q := by
  subst htms htdi
  have hcase := flushCase_ne_mismatch hm
  have hall := emitAll_absent (s := { q with tmsBuf := [], tdiBuf := [] }) hp (flushFrames q.tmsBuf q.tdiBuf)
  rw [if_neg (flushFrames_ne_nil hcase hc hpos)] at hall
  rcases flushBuffers_cases q with ⟨h, _⟩ | ⟨c, u, _, hu, hend⟩
  · exact absurd h hcase
  · cases hall.symm.trans hu
    rcases hend with ⟨h, _⟩ | ⟨_, e⟩
    · cases h
    · exact e

theorem readPlain_absent {s : State} (hp : s.params.portPresent = false) {n : Nat} (hn : n ≠ 0) (out : BitStream) :
    readPlain n out s = raised .nullPort (.stream out) s := by
  simp only [readPlain, hn, if_false, scanTdo_absent hp, raise_eq]

/-- With no port a read with exit fails at its first frame: that of the final bit, the replica having been stepped, or
one before it (R236). -/
theorem readThenExit_absent {s : State} (hp : s.params.portPresent = false) {n : Nat} (hn : 1 ≤ n) (out : BitStream) :
    readThenExit n out s =
      raised .nullPort (.stream out) { s with tapState := if n = 1 then nextTap s.tapState true else s.tapState } := by
  by_cases h1 : n = 1
  · have hscan := scanTdo_absent (s := { s with tapState := nextTap s.tapState true }) hp 1 flagsExit
    simp only [readThenExit, h1, Nat.le_refl, if_true, readExit, hscan, raise_eq]
  · simp only [readThenExit, show ¬ n ≤ 1 by omega, h1, if_false, scanTdo_absent hp, raise_eq]

/-! ### Nothing behind the port moves -/

/-- The port's traffic, the target, the pins and the pending bytes of `t` are those of `s`. -/
def PortStill (s t : State) : Prop :=
  t.port = s.port ∧ t.physTap = s.physTap ∧ t.pins = s.pins ∧ t.inbound = s.inbound

theorem PortStill.refl (s : State) : PortStill s s := ⟨rfl, rfl, rfl, rfl⟩

theorem PortStill.trans {s t u : State} (h : PortStill s t) (k : PortStill t u) : PortStill s u := by
  obtain ⟨hport, htap, hpins, hin⟩ := h
  obtain ⟨kport, ktap, kpins, kin⟩ := k
  exact ⟨kport.trans hport, ktap.trans htap, kpins.trans hpins, kin.trans hin⟩

theorem queueShift_portStill (bits : BitStream) (e : Bool) (s : State) : PortStill s (queueShift bits e s) := by
  cases e <;> exact .refl s

/-- Queuing bits transfers nothing, whether there is a port or not. -/
theorem Queues.portStill {s q : State} {i : Instr} (h : Queues s i q) : PortStill s q := by
  cases h with
  | flush => exact .refl s
  | resetTap => exact .refl s
  | goThruStates walk => exact .refl s
  | shiftTdi bits e shift tms => exact queueShift_portStill bits e s

theorem flushBuffers_portStill {q : State} (hp : q.params.portPresent = false) : PortStill q (flushBuffers q) := by
  rcases flushBuffers_cases q with ⟨_, e⟩ | ⟨c, t, _, ht, hend⟩
  · rw [e]; exact .refl q
  · cases (emitAll_absent (s := { q with tmsBuf := [], tdiBuf := [] }) hp _).symm.trans ht
    rcases hend with ⟨_, e⟩ | ⟨_, e⟩ <;> rw [e] <;> exact .refl q

theorem readPlain_portStill {s : State} (hp : s.params.portPresent = false) (n : Nat) (out : BitStream) :
    PortStill s (readPlain n out s) := by
  by_cases hn : n = 0
  · rw [readPlain, if_pos hn]; exact .refl s
  · rw [readPlain_absent hp hn]; exact .refl s

/-! ### The operations that reach a transfer -/

theorem execFlush_absent {s : State} (hp : s.params.portPresent = false) (hpos : 0 < s.tmsBuf.length + s.tdiBuf.length)
    (hc : ¬ countTooLong s.tmsBuf.length s.tdiBuf.length)
    (hm : s.tdiBuf = [] ∨ s.tmsBuf.length ≤ 1 ∨ s.tmsBuf.length = s.tdiBuf.length) :
    exec .flush s = .next (raised .nullPort .none s) := by
  have hcounts := (flushCounts_iff _ _).2 hc
  rw [← List.length_eq_zero_iff] at hm
  exact next_guarded (by simpa using hcounts) (flushBuffers_absent hp rfl rfl hpos hcounts hm)

theorem execResetTap_absent {s : State} (hp : s.params.portPresent = false)
    (hfits : s.fits (s.tmsBuf.length + 5) = true) (hc : ¬ countTooLong (s.tmsBuf.length + 5) s.tdiBuf.length)
    (hm : s.tdiBuf = [] ∨ s.tmsBuf.length + 5 = s.tdiBuf.length) :
    exec .resetTap s = .next (raised .nullPort .none { s with tapState := .tlr }) := by
  have hcounts := (flushCounts_iff _ _).2 hc
  have hqueued : (s.tmsBuf ++ List.replicate resetOnes true).length = s.tmsBuf.length + 5 := by simp [resetOnes]
  rw [← List.length_eq_zero_iff] at hm
  refine next_guarded ?_ (flushBuffers_absent hp hqueued rfl (by omega) hcounts (hm.imp_right .inr))
  simp only [List.forall_mem_cons]
  exact ⟨hfits, hcounts, by simp⟩

theorem execGoThruStates_absent {s : State} {targets : List TapState} (hp : s.params.portPresent = false)
    (htap : s.tapState ≠ .inv) (hwalk : walkOk s.tapState targets = true)
    (hfits : s.fits (s.tmsBuf.length + targets.length) = true)
    (hpos : 0 < s.tmsBuf.length + targets.length + s.tdiBuf.length)
    (hc : ¬ countTooLong (s.tmsBuf.length + targets.length) s.tdiBuf.length)
    (hm : s.tdiBuf = [] ∨ s.tmsBuf.length + targets.length ≤ 1 ∨
      s.tmsBuf.length + targets.length = s.tdiBuf.length) :
    exec (.goThruStates targets) s =
      .next (raised .nullPort .none { s with tapState := targets.getLastD s.tapState }) := by
  obtain ⟨hieee, bits, hbits⟩ := walkBits_of_walkOk hwalk
  obtain ⟨hlen, hrun⟩ := walkBits_spec _ _ _ hbits
  have hcounts := (flushCounts_iff _ _).2 hc
  have hqueued : (s.tmsBuf ++ bits).length = s.tmsBuf.length + targets.length := by rw [List.length_append, hlen]
  rw [← List.length_eq_zero_iff] at hm
  refine next_guarded ?_ ?_
  · simp only [List.forall_mem_cons]
    exact ⟨(isIeee_iff _).2 htap, hieee, Option.isSome_iff_exists.2 ⟨bits, hbits⟩, hfits, hcounts, by simp⟩
  · rw [hbits, Option.getD_some, queueAll_eq, hrun]
    exact flushBuffers_absent hp hqueued rfl hpos hcounts hm

theorem execShiftTdi_absent {s : State} {bits : BitStream} {e : Bool} (hp : s.params.portPresent = false)
    (hshift : s.inShift = true) (htms : s.tmsBuf = []) (hroom : s.fits (s.tdiBuf.length + bits.length) = true)
    (hroomTms : e = true → s.fits 1 = true)
    (hlt : s.tdiBuf.length + bits.length < 2 ^ 32 + (if e then 1 else 0))
    (hpos : e = true ∨ 0 < s.tdiBuf.length + bits.length) :
    exec (.shiftTdi bits e true) s = .next (raised .nullPort .none { s with
      tapState := if e then nextTap s.tapState true else s.tapState }) := by
  have hcounts : flushCounts (if e then 1 else 0) (s.tdiBuf.length + bits.length) = true := by
    rw [flushCounts_iff]; cases e <;> simp only [if_true, Bool.false_eq_true, if_false] at hlt ⊢ <;> omega
  have hqueuedTms : (queueShift bits e s).tmsBuf.length = if e then 1 else 0 := by
    rw [queueShift_tmsBuf, htms]; cases e <;> rfl
  have hqueuedTdi : (queueShift bits e s).tdiBuf.length = s.tdiBuf.length + bits.length := by simp
  refine next_guarded ?_ ((flushBuffers_absent ((queueShift_params bits e s).symm ▸ hp) hqueuedTms hqueuedTdi ?_ hcounts
    (.inr (.inl (by cases e <;> decide)))).trans ?_)
  · simp only [List.forall_mem_cons]
    refine ⟨hshift, List.isEmpty_iff.2 htms, hroom, ?_, hcounts, by simp⟩
    rw [htms]; cases e with
    | false => rfl
    | true => exact hroomTms rfl
  · cases e with
    | false => simpa using hpos
    | true => simp
  · cases e <;> rfl

/-- The checks of `shift_tdo` (R234), all met: its body runs. -/
theorem execShiftTdo_body {s : State} {n : Nat} (e : Bool) {out : BitStream} (hshift : s.inShift = true)
    (htms : s.tmsBuf = []) (htdi : s.tdiBuf = []) (hn : 0 < n) (hcount : n < 2 ^ 32)
    (hfits : s.fits (out.length + n) = true) :
    exec (.shiftTdo n e out) s = .next (if e then readThenExit n out s else readPlain n out s) := by
  refine next_guarded ?_ rfl
  simp only [List.forall_mem_cons]
  exact ⟨hshift, List.isEmpty_iff.2 htms, List.isEmpty_iff.2 htdi, (fitsCount_iff n).2 hcount,
    by simp [Nat.one_le_iff_ne_zero, hn.ne'], hfits, by simp⟩

theorem execRunTest_absent {s : State} {n : Nat} (hp : s.params.portPresent = false) (htms : s.tmsBuf = [])
    (htdi : s.tdiBuf = []) (hcount : n < 2 ^ 32) : exec (.runTest n) s = .next (raised .nullPort .none s) := by
  refine next_guarded ?_ (by rw [emitFrame_absent hp]; rfl)
  simp only [List.forall_mem_cons]
  exact ⟨(fitsCount_iff n).2 hcount, List.isEmpty_iff.2 htms, List.isEmpty_iff.2 htdi, by simp⟩

/-- With no port no operation changes anything behind it (log entry 15). -/
theorem exec_portStill {i : Instr} {s t : State} (hp : s.params.portPresent = false) (hi : isRequest i = true)
    (h : exec i s = .next t) : PortStill s t := by
  cases exec_ran h with
  | refused k request => exact .refl s
  | answered r pure => exact .refl s
  | frame hf => rw [isRequest, hf] at hi; cases hi
  | flushed queues counts =>
    obtain ⟨hparams, _⟩ := queues.kept
    exact queues.portStill.trans (flushBuffers_portStill (hparams ▸ hp))
  | queued bits e shift tms room roomTms => exact queueShift_portStill bits e s
  | read out shift tms tdi count => exact readPlain_portStill hp _ out
  | readExit out shift tms tdi count pos => rw [readThenExit_absent hp pos]; exact .refl s
  | pulsed tms tdi count transferred hold =>
    rw [Host.Outcome.next.inj (h.symm.trans (execRunTest_absent hp tms tdi count))]; exact .refl s

/-- Settles O48, clause by clause. -/
theorem absentPortIsNullPort : Obligations.AbsentPortIsNullPort := by
  refine ⟨fun s t i hp hi h => exec_portStill hp hi h, fun s hp hpos hc hm => execFlush_absent hp hpos hc hm,
    fun s hp hfits hc hm => execResetTap_absent hp hfits hc hm,
    fun s targets hp htap hwalk hfits hpos hc hm => execGoThruStates_absent hp htap hwalk hfits hpos hc hm,
    fun s bits e hp hshift htms hroom hroomTms hlt hpos =>
      execShiftTdi_absent hp hshift htms hroom hroomTms hlt hpos,
    fun s n out hp hshift htms htdi hn hcount hfits => ⟨?_, ?_⟩,
    fun s n hp htms htdi hcount => execRunTest_absent hp htms htdi hcount⟩
  · rw [execShiftTdo_body false hshift htms htdi hn hcount hfits]
    exact congrArg _ (readPlain_absent hp hn.ne' out)
  · rw [execShiftTdo_body true hshift htms htdi hn hcount hfits]
    exact congrArg _ (readThenExit_absent hp hn out)

end Sys2Proof.Machine
end

section
/-! Request bytes and the bits they carry: each reader of the decoder gives back the operand its writer wrote and leaves
the bits after it. -/

namespace Sys2Proof.Machine

/-! ### Bits of a byte and of a byte sequence -/

/-- `bits_k(v)` stands for `v` modulo `2^k` (R10). -/
theorem val_bitsOf (k v : Nat) : val (bitsOf k v) = v % 2 ^ k := by
  refine Nat.eq_of_testBit_eq fun i => ?_
  rw [testBit_val, Nat.testBit_mod_two_pow, List.getD_eq_getElem?_getD]
  by_cases h : i < k
  · simp [bitsOf, h]
  · simp [bitsOf, h]

theorem val_bitsOf_of_lt {k v : Nat} (h : v < 2 ^ k) : val (bitsOf k v) = v := by
  rw [val_bitsOf, Nat.mod_eq_of_lt h]

theorem unpackBits_byte (y : Byte) : unpackBits [y] 8 = bitsOf 8 y.toNat := by
  refine List.map_congr_left fun t ht => ?_
  have ht : t < 8 := List.mem_range.1 ht
  have hdiv : t / 8 = 0 := by omega
  have hmod : t % 8 = t := by omega
  simp [bitAt, hdiv, hmod, BitVec.getLsbD]

theorem byteOf_bitsOf (y : Byte) : byteOf (bitsOf 8 y.toNat) = y := by
  rw [byteOf, List.take_of_length_le (by rw [length_bitsOf]), val_bitsOf_of_lt y.isLt, BitVec.ofNat_toNat,
    BitVec.setWidth_eq]

theorem bitsOfAll_cons (y : Byte) (ys : List Byte) : bitsOfAll (y :: ys) = bitsOf 8 y.toNat ++ bitsOfAll ys := by
  rw [bitsOfAll, unpackBits_byte]

theorem length_bitsOfAll (ys : List Byte) : (bitsOfAll ys).length = 8 * ys.length := by
  induction ys with
  | nil => rfl
  | cons y ys ih => rw [bitsOfAll_cons, List.length_append, length_bitsOf, ih, List.length_cons]; omega

/-- Packing the bits of a byte sequence gives the bytes back. -/
theorem packBits_bitsOfAll (ys : List Byte) : packBits (bitsOfAll ys) = ys := by
  induction ys with
  | nil => rfl
  | cons y ys ih => rw [bitsOfAll_cons, packBits_byte _ _ (length_bitsOf 8 _), byteOf_bitsOf, ih]

/-- A short stream packs into one byte. -/
theorem packBits_short {s : BitStream} (hpos : s ≠ []) (h : s.length ≤ 8) : packBits s = [byteOf s] := by
  have hlen := List.length_pos_iff.2 hpos
  have hone : ceil8 s.length = 1 := by unfold ceil8; omega
  simp [packBits, hone]

/-- The bits of a packed byte are the stream it holds, then zeros (R170, decision D9). -/
theorem bitsOf_byteOf {s : BitStream} (h : s.length ≤ 8) :
    bitsOf 8 (byteOf s).toNat = s ++ List.replicate (8 - s.length) false := by
  refine List.ext_getElem (by simp [length_bitsOf]; omega) fun i hi _ => ?_
  have hi : i < 8 := by rwa [length_bitsOf] at hi
  have hbit := getLsbD_byteOf s hi
  rw [getElem_bitsOf, ← BitVec.getLsbD, hbit, List.getElem_append]
  split <;> simp_all

/-- The bits of packed bytes are the stream that was packed, and zeros after it. -/
theorem bitsOfAll_packBits (s : BitStream) : ∃ n, bitsOfAll (packBits s) = s ++ List.replicate n false := by
  by_cases hlen : s.length ≤ 8
  · by_cases hnil : s = []
    · exact ⟨0, by rw [hnil]; rfl⟩
    · exact ⟨8 - s.length, by rw [packBits_short hnil hlen, bitsOfAll_cons, bitsOf_byteOf hlen]; simp [bitsOfAll]⟩
  · have htake : (s.take 8).length = 8 := by rw [List.length_take]; omega
    obtain ⟨n, ih⟩ := bitsOfAll_packBits (s.drop 8)
    refine ⟨n, ?_⟩
    have hbyte := bitsOf_byteOf htake.le
    calc bitsOfAll (packBits s)
        = bitsOfAll (packBits (s.take 8 ++ s.drop 8)) := by rw [List.take_append_drop]
      _ = bitsOf 8 (byteOf (s.take 8)).toNat ++ bitsOfAll (packBits (s.drop 8)) := by
          rw [packBits_byte _ _ htake, bitsOfAll_cons]
      _ = s.take 8 ++ (s.drop 8 ++ List.replicate n false) := by
          rw [hbyte, htake, ih, Nat.sub_self, List.replicate_zero, List.append_nil]
      _ = s ++ List.replicate n false := by rw [← List.append_assoc, List.take_append_drop]
termination_by s.length
decreasing_by rw [List.length_drop]; omega

/-! ### Readers and writers of operands -/

/-- A reader takes these bits as this operand, whatever bits follow, and leaves those. -/
def Reads {α : Type} (p : List Bool → Parse α) (bits : List Bool) (a : α) : Prop :=
  ∀ rest, p (bits ++ rest) = .ok (a, rest)

theorem readBits_reads (bits : BitStream) : Reads (readBits bits.length) bits bits := by
  intro rest
  induction bits with
  | nil => rfl
  | cons b bits ih => simp only [List.length_cons, List.cons_append, readBits, ih]

theorem readNat_reads {w n : Nat} (h : n < 2 ^ w) : Reads (readNat w) (bitsOf w n) n := by
  intro rest
  have hbits := readBits_reads (bitsOf w n) rest
  rw [length_bitsOf] at hbits
  simp only [readNat, hbits, val_bitsOf_of_lt h]

theorem readFlag_reads (b : Bool) : Reads readFlag [b] b := fun _ => rfl

theorem readLength_reads {n : Nat} (h : lengthFits n = true) : Reads (readNat lengthWidth) (bitsOf lengthWidth n) n :=
  readNat_reads (of_decide_eq_true h)

theorem readWidth_reads {k : Nat} (h : widthFits k = true) : Reads (readNat widthWidth) (bitsOf widthWidth k) k :=
  readNat_reads (of_decide_eq_true h)

theorem readCount_reads {n : Nat} (h : fitsCount n = true) : Reads (readNat lenWidth) (bitsOf lenWidth n) n :=
  readNat_reads (of_decide_eq_true h)

theorem readInt_reads (v : BitVec 64) : Reads (readNat intWidth) (bitsOf intWidth v.toNat) v.toNat :=
  readNat_reads v.isLt

theorem readStream_reads {s : BitStream} (h : lengthFits s.length = true) : Reads readStream (streamBits s) s := by
  intro rest
  rw [streamBits, List.append_assoc, readStream, readLength_reads h]
  exact readBits_reads s rest

theorem readBytes_reads {y : List Byte} (h : lengthFits y.length = true) : Reads readBytes (bytesBits y) y := by
  intro rest
  have hbits := readBits_reads (bitsOfAll y) rest
  rw [length_bitsOfAll] at hbits
  rw [bytesBits, List.append_assoc, readBytes, readLength_reads h]
  simp only [hbits, packBits_bitsOfAll]

/-- An 8-bit character code stands for its character (log entry 20). -/
theorem charOfByte {c : Char} (h : c.toNat < 256) : Char.ofNat (BitVec.ofNat 8 c.toNat).toNat = c := by
  rw [BitVec.toNat_ofNat, Nat.mod_eq_of_lt h, Char.ofNat_toNat]

theorem readChars_reads {str : List Char} (hlen : lengthFits str.length = true)
    (hcodes : str.all (fun c => decide (c.toNat < 256)) = true) : Reads readChars (charsBits str) str := by
  intro rest
  have hback : ((str.map fun c => BitVec.ofNat 8 c.toNat).map fun y => Char.ofNat y.toNat) = str := by
    rw [List.map_map]
    refine (List.map_congr_left fun c hc => ?_).trans (List.map_id _)
    exact charOfByte (of_decide_eq_true (List.all_eq_true.1 hcodes c hc))
  rw [charsBits, readChars, readBytes_reads (by rwa [List.length_map])]
  simp only [hback]

theorem readPushArg_reads {b : PushArg} (h : b.wellFormed = true) : Reads readPushArg (pushArgBits b) b := by
  intro rest
  cases b with
  | stream s => simp only [pushArgBits, List.cons_append, readPushArg, readFlag, readStream_reads h rest]
  | int v k =>
    simp only [pushArgBits, List.cons_append, List.append_assoc, readPushArg, readFlag, readInt_reads v _,
      readWidth_reads h rest, BitVec.ofNat_toNat, BitVec.setWidth_eq]

theorem tapCode_lt (s : TapState) : tapCode s < 2 ^ 5 := by cases s <;> decide

theorem tapOfCode_tapCode (s : TapState) : tapOfCode (tapCode s) = some s := by cases s <;> rfl

theorem readTap_reads (s : TapState) : Reads readTap (tapBits s) s := by
  intro rest
  simp only [readTap, tapBits, readNat_reads (tapCode_lt s) rest, tapOfCode_tapCode]

theorem readTargets_reads (targets : List TapState) :
    Reads (readTargets targets.length) (targets.flatMap tapBits) targets := by
  intro rest
  induction targets with
  | nil => rfl
  | cons t targets ih =>
    simp only [List.flatMap_cons, List.append_assoc, List.length_cons, readTargets, tapBits,
      readNat_reads (tapCode_lt t) _]
    simp only [ih, tapOfCode_tapCode, Option.getD_some]

theorem readWalk_reads {targets : List TapState} (h : lengthFits targets.length = true) :
    Reads readWalk (bitsOf lengthWidth targets.length ++ targets.flatMap tapBits) targets := by
  intro rest
  rw [List.append_assoc, readWalk, readLength_reads h]
  exact readTargets_reads targets rest

section
variable {α β γ : Type} {p : List Bool → Parse α} {q : List Bool → Parse β} {r : List Bool → Parse γ}
  {x y z : List Bool} {a : α} {b : β} {c : γ}

theorem read1_reads (f : α → Instr) (hp : Reads p x a) : Reads (read1 p f) x (f a) := by
  intro rest
  simp only [read1, hp rest]

theorem read2_reads (f : α → β → Instr) (hp : Reads p x a) (hq : Reads q y b) :
    Reads (read2 p q f) (x ++ y) (f a b) := by
  intro rest
  simp only [List.append_assoc, read2, hp (y ++ rest), read1_reads (f a) hq rest]

theorem read3_reads (f : α → β → γ → Instr) (hp : Reads p x a) (hq : Reads q y b) (hr : Reads r z c) :
    Reads (read3 p q r f) (x ++ (y ++ z)) (f a b c) := by
  intro rest
  rw [List.append_assoc, read3, hp]
  exact read2_reads (f a) hq hr rest

end

/-! ### Requests -/

/-- The operand bits of a well-formed request are read back as its operands (R110, R111). -/
theorem decodeOperands_reads {i : Instr} {op : Nat} {operands : List Bool} (hi : i.wellFormed = true)
    (h : requestParts i = some (op, operands)) : op < 2 ^ 8 ∧ Reads (decodeOperands op) operands i := by
  cases i <;> simp only [Instr.wellFormed, Bool.and_eq_true] at hi <;> cases h <;> refine ⟨by decide, ?_⟩
  case bsFromInt v k =>
    have hread := read2_reads (fun v k => Instr.bsFromInt (BitVec.ofNat 64 v) k) (readInt_reads v) (readWidth_reads hi)
    rwa [BitVec.ofNat_toNat, BitVec.setWidth_eq] at hread
  case bsFromBytes => exact read2_reads _ (readBytes_reads hi.1) (readLength_reads hi.2)
  case bsFromString => exact read1_reads _ (readChars_reads hi.1 hi.2)
  case pushBack => exact read2_reads _ (readStream_reads hi.1) (readPushArg_reads hi.2)
  case pushFront => exact read2_reads _ (readStream_reads hi.1) (readPushArg_reads hi.2)
  case popBack => exact read2_reads _ (readStream_reads hi.1) (readLength_reads hi.2)
  case popFront => exact read2_reads _ (readStream_reads hi.1) (readLength_reads hi.2)
  case front => exact read2_reads _ (readStream_reads hi.1) (readWidth_reads hi.2)
  case back => exact read2_reads _ (readStream_reads hi.1) (readWidth_reads hi.2)
  case concat => exact read2_reads _ (readStream_reads hi.1) (readStream_reads hi.2)
  case slice =>
    obtain ⟨⟨hs, hfirst⟩, hlast⟩ := hi
    exact read3_reads _ (readStream_reads hs) (readLength_reads hfirst) (readLength_reads hlast)
  case toInt => exact read1_reads _ (readStream_reads hi)
  case toIntWindow =>
    obtain ⟨⟨hs, hfirst⟩, hlast⟩ := hi
    exact read3_reads _ (readStream_reads hs) (readLength_reads hfirst) (readLength_reads hlast)
  case toStr => exact read1_reads _ (readStream_reads hi)
  case size => exact read1_reads _ (readStream_reads hi)
  case pack => exact read1_reads _ (readStream_reads hi)
  case unpack => exact read2_reads _ (readBytes_reads hi.1) (readLength_reads hi.2)
  case interleave => exact read2_reads _ (readBytes_reads hi.1) (readBytes_reads hi.2)
  case tapNext s tms => exact read2_reads _ (readTap_reads s) (readFlag_reads tms)
  case flush => exact fun _ => rfl
  case resetTap => exact fun _ => rfl
  case goThruStates => exact read1_reads _ (readWalk_reads hi)
  case shiftTdi bits e f =>
    have hread := read3_reads .shiftTdi (readStream_reads hi) (readFlag_reads e) (readFlag_reads f)
    exact hread
  case shiftTdo n e out =>
    have hread := read3_reads .shiftTdo (readCount_reads hi.1) (readFlag_reads e) (readStream_reads hi.2)
    exact hread
  case runTest => exact read1_reads _ (readCount_reads hi)

/-- The first byte of a request is its operation code; the rest carries the operands. -/
theorem readOpCode (op : Byte) (operands : List Byte) :
    readNat 8 (bitsOfAll (op :: operands)) = .ok (op.toNat, bitsOfAll operands) := by
  rw [bitsOfAll_cons]
  exact readNat_reads op.isLt _

/-- Packed request bits are read back, the padding being zeros. -/
theorem decodeRequest_packBits {i : Instr} {op : Nat} {operands : List Bool} (hop : op < 2 ^ 8)
    (h : Reads (decodeOperands op) operands i) : decodeRequest (packBits (bitsOf 8 op ++ operands)) = .ok i := by
  obtain ⟨n, hbits⟩ := bitsOfAll_packBits (bitsOf 8 op ++ operands)
  rw [decodeRequest, hbits, List.append_assoc, readNat_reads hop]
  simp only [h (List.replicate n false)]
  simp

end Sys2Proof.Machine
end

section
/-! Command frames: their bytes, how the decoder reads them, what the device does with them, and the statements of
30_encoding.md about the decoder, the encoder and the frames presented at the port. -/

namespace Sys2Proof.Machine

open Sys2Proof.Config

/-! ### Counts -/

theorem countByte_eq (c : BitVec 32) (i : Nat) : countByte c i = BitVec.ofNat 8 (c.toNat / 2 ^ (8 * i)) := by
  refine BitVec.eq_of_toNat_eq ?_
  rw [countByte, BitVec.extractLsb'_toNat, BitVec.toNat_ofNat, Nat.shiftRight_eq_div_pow]

theorem toNat_countByte (c : BitVec 32) (i : Nat) : (countByte c i).toNat = c.toNat / 2 ^ (8 * i) % 2 ^ 8 := by
  rw [countByte_eq, BitVec.toNat_ofNat]

/-- The bytes of a count are those of R102 written out. -/
theorem le32_toNat (c : BitVec 32) : le32 c.toNat = countBytes c := by
  simp only [le32, countBytes, countByte_eq]
  simp

theorem toNat_append_byte {w : Nat} (x : BitVec w) (b : Byte) : (x ++ b).toNat = x.toNat * 2 ^ 8 + b.toNat := by
  rw [BitVec.toNat_append, ← Nat.shiftLeft_add_eq_or_of_lt b.isLt, Nat.shiftLeft_eq]

theorem toNat_countOfBytes (b0 b1 b2 b3 : Byte) :
    (countOfBytes b0 b1 b2 b3).toNat =
      b0.toNat + b1.toNat * 2 ^ 8 + b2.toNat * 2 ^ 16 + b3.toNat * 2 ^ 24 := by
  rw [countOfBytes, toNat_append_byte, toNat_append_byte, toNat_append_byte]
  omega

theorem countOfBytes_countByte (c : BitVec 32) :
    countOfBytes (countByte c 0) (countByte c 1) (countByte c 2) (countByte c 3) = c := by
  have hc := c.isLt
  refine BitVec.eq_of_toNat_eq ?_
  simp only [toNat_countOfBytes, toNat_countByte]
  omega

theorem getElem_countBytes (c : BitVec 32) {i : Nat} (h : i < 4) : (countBytes c)[i]? = some (countByte c i) := by
  interval_cases i <;> rfl

theorem sum_countBytes (c : BitVec 32) :
    ((List.range 4).map fun i => ((countBytes c).getD i 0).toNat * 2 ^ (8 * i)).sum = c.toNat := by
  have hsum := toNat_countOfBytes (countByte c 0) (countByte c 1) (countByte c 2) (countByte c 3)
  rw [countOfBytes_countByte] at hsum
  rw [hsum, List.sum_range_succ, List.sum_range_succ, List.sum_range_succ, List.sum_range_succ, List.range_zero,
    List.map_nil, List.sum_nil]
  simp [countBytes]

/-- Settles O7: the four bytes are the count's quotients modulo 256, which sum up to it again. -/
theorem countsReassembleLittleEndian : Obligations.CountsReassembleLittleEndian := by
  intro c
  exact ⟨rfl, fun i hi => by rw [getElem_countBytes c hi, countByte_eq], (sum_countBytes c).symm,
    countOfBytes_countByte c⟩

/-! ### The bytes of a frame -/

theorem frameBytes_j (s : State) (len : BitVec 32) (flags : Byte) (payload : List Byte) :
    frameBytes s.params (.j len flags payload) = jframe s len.toNat flags payload := by
  simp [frameBytes, jframe, le32_toNat]

theorem frameBytes_r (s : State) (n : BitVec 32) : frameBytes s.params (.r n) = rframe s n.toNat := by
  simp [frameBytes, rframe, le32_toNat]

theorem encode_frame {i : Instr} {f : Frame} (h : frameOf i = some f) (p : Params) :
    encode p i = .frame (frameBytes p f) := by
  simp only [encode, h]

theorem encode_request {i : Instr} {op : Nat} {operands : List Bool} (hf : frameOf i = none)
    (h : requestParts i = some (op, operands)) (p : Params) :
    encode p i = .request (packBits (bitsOf 8 op ++ operands)) := by
  simp only [encode, hf, h]

/-- An instruction that is no frame is a request. -/
theorem requestParts_of_frameOf_none {i : Instr} (h : frameOf i = none) : ∃ parts, requestParts i = some parts := by
  cases i <;> first | exact ⟨_, rfl⟩ | cases h

/-- Settles O6: each row of the table is the frame of its flags byte. -/
theorem frameBytesFollowHeaderLayout : Obligations.FrameBytesFollowHeaderLayout := by
  intro s len n payload
  refine ⟨?_, ?_, ?_, ?_, ?_, ?_⟩ <;> rw [encode_frame rfl]
  · exact congrArg _ (frameBytes_j s len _ payload)
  · exact congrArg _ (frameBytes_j s len _ payload)
  · exact congrArg _ (frameBytes_j s len _ payload)
  · exact congrArg _ (frameBytes_j s len _ [])
  · exact congrArg _ (frameBytes_j s len _ [])
  · exact congrArg _ (frameBytes_r s n)

/-! ### Reading a frame -/

/-- The bytes of a J-frame are read back as its fields, where a rule gives it a meaning, and otherwise as no frame. -/
theorem readFrame_j (p : Params) (len : BitVec 32) (flags : Byte) (payload : List Byte) :
    readFrame p (frameBytes p (.j len flags payload)) =
      if jframeKnown len flags payload then some (.j len flags payload) else none := by
  simp only [frameBytes, countBytes, List.cons_append, List.nil_append, readFrame, countOfBytes_countByte, if_true]

/-- The bytes of an R-frame are read back as its pulse count, its opcode not being that of a J-frame (decision D4). -/
theorem readFrame_r {p : Params} (hp : p.runtestCmd ≠ p.jtagCmd) (n : BitVec 32) :
    readFrame p (frameBytes p (.r n)) = some (.r n) := by
  simp only [frameBytes, countBytes, readFrame, countOfBytes_countByte, hp, if_false, and_self, if_true]

/-- A first byte that is neither opcode begins no frame (R91, R103 (d)). -/
theorem readFrame_otherOp {p : Params} {op : Byte} (hj : op ≠ p.jtagCmd) (hr : op ≠ p.runtestCmd) (bytes : List Byte) :
    readFrame p (op :: bytes) = none := by
  unfold readFrame
  split
  · next heq => cases heq; simp [hj, hr]
  · rfl

theorem jframeKnown_iff (len : BitVec 32) (flags : Byte) (payload : List Byte) :
    jframeKnown len flags payload = true ↔
      1 ≤ len.toNat ∧ payload.length = payloadLength flags len.toNat ∧ hasFlag flags flagsUnnamed = false := by
  simp [jframeKnown, frameFits, and_assoc]

/-- The flags R94 names are those below 32 (R103 (a)). -/
theorem hasFlag_unnamed_iff (flags : Byte) : hasFlag flags flagsUnnamed = true ↔ 32 ≤ flags.toNat := by
  revert flags; decide

/-- A frame of a row of the table is read as that instruction: the five flags bytes are distinct (R99). -/
theorem instrOfFrame_of_frameOf {i : Instr} {f : Frame} (hi : i.wellFormed = true) (h : frameOf i = some f) :
    instrOfFrame f = some i := by
  cases i <;> cases h
  case jframePutTms => rfl
  case jframePutTdi => rfl
  case jframePutTmsTdi => rfl
  case jframeGetTdo => rfl
  case jframeGetTdoExit len =>
    have hlen : len = 1 := of_decide_eq_true hi
    rw [hlen]; rfl
  case rframe => rfl

/-- Bytes with a row of the table for their frame are decoded to it. -/
theorem decodeFrame_frameBytes {p : Params} {i : Instr} {f : Frame} (hp : p.wf) (hi : i.wellFormed = true)
    (h : frameOf i = some f) : decodeFrame p (frameBytes p f) = .ok i := by
  have hread : readFrame p (frameBytes p f) = some f := by
    cases f with
    | r n => exact readFrame_r hp.1 n
    | j len flags payload =>
      rw [readFrame_j, if_pos]
      cases i <;> cases h
      case jframeGetTdoExit.refl =>
        have hlen : len = 1 := of_decide_eq_true hi
        rw [hlen]; rfl
      all_goals exact Bool.and_eq_true_iff.2 ⟨hi, rfl⟩
  rw [decodeFrame, hread]
  simp only [instrOfFrame_of_frameOf hi h]

/-- Settles O1: a frame is read back field by field, a request operand by operand with zeros after the last. -/
theorem decodeOfEncode : Obligations.DecodeOfEncode := by
  intro p i hp hi
  cases hf : frameOf i with
  | some f => rw [encode_frame hf]; exact decodeFrame_frameBytes hp hi hf
  | none =>
    obtain ⟨⟨op, operands⟩, hparts⟩ := requestParts_of_frameOf_none hf
    obtain ⟨hop, hread⟩ := decodeOperands_reads hi hparts
    rw [encode_request hf hparts]
    exact decodeRequest_packBits hop hread

/-- Settles O2: six requests and a J-frame run through the decoder, and the R-frame, whose opcode must not be that of a
J-frame. -/
theorem decodesTheSpecsWords : Obligations.DecodesTheSpecsWords := by
  refine ⟨by decide, by decide, by decide, by decide, by decide, by decide, fun p => ?_, fun p hp => ?_⟩
  · have hread := readFrame_j p 5 0x02 [0x1F]
    rw [if_pos (by decide)] at hread
    rw [decodeFrame, show [p.jtagCmd, 0x05, 0x00, 0x00, 0x00, 0x02, 0x1F] = frameBytes p (.j 5 0x02 [0x1F]) from rfl,
      hread]
    rfl
  · exact decodeFrame_frameBytes (i := .rframe 100) hp rfl rfl

/-! ### Items that are no instruction -/

/-- R111 lists every operation code that has operands to read. -/
theorem decodeOperands_badOp {op : Nat} (h : op ∉ opCodes) (bs : List Bool) : decodeOperands op bs = .error .badOp := by
  unfold decodeOperands
  split <;> first | exact absurd (by decide) h | rfl

theorem takeInput_of_inputs {s : State} {x : Input} {rest : List Input} (h : s.inputs = x :: rest) :
    takeInput s = { s with inputs := rest } := by
  rw [takeInput, h, List.tail_cons]

/-- Settles O3: the first byte is read as the operation code, for which there are no operands to read. -/
theorem undefinedOpCodeIsBadOp : Obligations.UndefinedOpCodeIsBadOp := by
  intro s op operands rest hop hin
  have hdecode : decode s.params (.request (op :: operands)) = .error .badOp := by
    simp only [decode, decodeRequest, readOpCode, decodeOperands_badOp hop]
  simp only [step, fetch, hin, hdecode, takeInput_of_inputs hin, violate_eq]

theorem step_unknownFrame {s : State} {bytes : List Byte} {rest : List Input} (hin : s.inputs = .frame bytes :: rest)
    (h : decodeFrame s.params bytes = .error .unknownFrame) : step s = .refused .unknownFrame := by
  simp only [step, fetch, hin, decode, h]

theorem decodeFrame_unknown {p : Params} {bytes : List Byte} (h : readFrame p bytes = none) :
    decodeFrame p bytes = .error .unknownFrame := by
  rw [decodeFrame, h]

/-- Settles O5: a request's errors other than `BadOp` are the fault, and a frame that is not read is refused; one with
another opcode, an unnamed flag or no bit count is not read. -/
theorem malformedInputStops : Obligations.MalformedInputStops := by
  refine ⟨fun s bytes rest e hin hd he => ?_, fun s bytes rest hin hd => step_unknownFrame hin hd,
    fun s op bytes rest hin hj hr => step_unknownFrame hin (decodeFrame_unknown (readFrame_otherOp hj hr bytes)),
    fun s len flags payload rest hin hbad => step_unknownFrame hin (decodeFrame_unknown ?_)⟩
  · rcases he with rfl | rfl | rfl <;> simp only [step, fetch, hin, decode, hd]
  · rw [← frameBytes_j, readFrame_j, if_neg]
    rw [jframeKnown_iff]
    rintro ⟨hlen, _, hflags⟩
    rcases hbad with hbad | rfl
    · rw [(hasFlag_unnamed_iff flags).2 hbad] at hflags; cases hflags
    · exact absurd hlen (by decide)

/-! ### What the device does with a presented frame -/

/-- A J-frame that is read as an instruction is the frame of that instruction: a read frame has no payload (R95). -/
theorem frameOf_of_instrOfFrame {len : BitVec 32} {flags : Byte} {payload : List Byte} {i : Instr}
    (hlen : payload.length = payloadLength flags len.toNat) (h : instrOfFrame (.j len flags payload) = some i) :
    frameOf i = some (.j len flags payload) := by
  simp only [instrOfFrame] at h
  split_ifs at h with htms htdi hboth hread hexit
  · cases h; subst htms; rfl
  · cases h; subst htdi; rfl
  · cases h; subst hboth; rfl
  · cases h; subst hread
    have hnil : payload = [] := List.length_eq_zero_iff.1 hlen
    rw [hnil]; rfl
  · cases h; obtain ⟨rfl, rfl⟩ := hexit
    have hnil : payload = [] := List.length_eq_zero_iff.1 hlen
    rw [hnil]; rfl

/-- The device takes a presented J-frame that a rule gives a meaning, whether it is a row of the table or not (R100,
R103 (b), log entry 22). -/
theorem step_jframe {s : State} {len : BitVec 32} {flags : Byte} {payload : List Byte} {rest : List Input}
    (hin : s.inputs = .frame (jframe s len.toNat flags payload) :: rest) (h : jframeKnown len flags payload = true) :
    step s = .next (deviceFrame (.j len flags payload) { s with inputs := rest }) := by
  obtain ⟨_, hpayload, _⟩ := (jframeKnown_iff len flags payload).1 h
  have hread : readFrame s.params (jframe s len.toNat flags payload) = some (.j len flags payload) := by
    rw [← frameBytes_j, readFrame_j, if_pos h]
  cases hi : instrOfFrame (.j len flags payload) with
  | none =>
    have hdecode : decodeFrame s.params (jframe s len.toNat flags payload) =
        .error (.unlistedFrame (.j len flags payload)) := by simp only [decodeFrame, hread, hi]
    simp only [step, fetch, hin, decode, hdecode, takeInput_of_inputs hin]
  | some i =>
    have hdecode : decodeFrame s.params (jframe s len.toNat flags payload) = .ok i := by
      simp only [decodeFrame, hread, hi]
    simp only [step, fetch, hin, decode, hdecode, takeInput_of_inputs hin]
    exact exec_frame (frameOf_of_instrOfFrame hpayload hi) _

/-- A frame that owes no reply changes the pins and the target only. -/
theorem deviceFrame_silent {len : BitVec 32} {flags : Byte} (payload : List Byte) (s : State)
    (h : hasFlag flags flagGetTdo = false) :
    deviceFrame (.j len flags payload) s = { s with
      pins := s.pins ++ frameCycles len.toNat flags payload []
      physTap := runTap s.physTap (frameTms len.toNat flags payload) } := by
  simp [deviceFrame, replyLength, h, tapDraws, framePins, frameTap, nextReply]

/-! ### What each frame asks of the pins -/

theorem hasFlag_getTdo (flags : Byte) : hasFlag flags flagGetTdo = flags.getLsbD 0 := by revert flags; decide

theorem hasFlag_putTms (flags : Byte) : hasFlag flags flagPutTms = flags.getLsbD 1 := by revert flags; decide

theorem hasFlag_tmsVal (flags : Byte) : hasFlag flags flagTmsVal = flags.getLsbD 2 := by revert flags; decide

theorem hasFlag_putTdi (flags : Byte) : hasFlag flags flagPutTdi = flags.getLsbD 3 := by revert flags; decide

theorem hasFlag_tdiVal (flags : Byte) : hasFlag flags flagTdiVal = flags.getLsbD 4 := by revert flags; decide

/-- A J-frame with any flags takes the reply its `GET_TDO` bit asks for and drives the pins by its other flags (R94,
R97, R100). -/
theorem deviceFrame_j {len : BitVec 32} {flags : Byte} (payload : List Byte) (s : State) {k : Nat}
    (hk : k = if flags.getLsbD 0 then ceil8 len.toNat else 0) :
    deviceFrame (.j len flags payload) s = { used 0 0 k 0 s with
      pins := s.pins ++ frameCycles len.toNat flags payload (nextReply k s)
      physTap := runTap s.physTap (frameTms len.toNat flags payload)
      inbound := s.inbound ++ nextReply k s } := by
  have hreply : replyLength (.j len flags payload) = k := by rw [hk, replyLength, hasFlag_getTdo]
  simp [deviceFrame, hreply, tapDraws, framePins, frameTap, used]

theorem payloadLength_eq (flags : Byte) (len : Nat) :
    payloadLength flags len =
      (if flags.getLsbD 1 then ceil8 len else 0) + (if flags.getLsbD 3 then ceil8 len else 0) := by
  rw [payloadLength, hasFlag_putTms, hasFlag_putTdi]
  cases flags.getLsbD 1 <;> cases flags.getLsbD 3 <;> simp [two_mul]

/-- A read frame captures TDO with TDI low and TMS at one level, bit `t` of the reply in cycle `t` (R100). -/
theorem frameCycles_read {flags : Byte} (len : Nat) (y : List Byte) (htms : hasFlag flags flagPutTms = false)
    (htdi : hasFlag flags flagPutTdi = false) (hval : hasFlag flags flagTdiVal = false)
    (hget : hasFlag flags flagGetTdo = true) :
    frameCycles len flags [] y = readCycles (hasFlag flags flagTmsVal) (unpackBits y len) := by
  simp [frameCycles, readCycles, unpackBits, tmsPin, tdiPin, tdoPin, htms, htdi, hval, hget]

theorem jframePutTms_pins (s : State) (len : BitVec 32) (payload : List Byte) :
    exec (.jframePutTms len payload) s = .next { s with
      pins := s.pins ++ (List.range len.toNat).map fun t => .cycle (bitAt payload t) false none
      physTap := runTap s.physTap ((List.range len.toNat).map (bitAt payload)) } :=
  congrArg _ (deviceFrame_silent payload s rfl)

theorem jframePutTdi_pins (s : State) (len : BitVec 32) (payload : List Byte) :
    exec (.jframePutTdi len payload) s = .next { s with
      pins := s.pins ++ (List.range len.toNat).map fun t => .cycle false (bitAt payload t) none
      physTap := runTap s.physTap (List.replicate len.toNat false) } := by
  have hlow : frameTms len.toNat flagsTdi payload = List.replicate len.toNat false := frameTms_static _ _ rfl
  rw [← hlow]
  exact congrArg _ (deviceFrame_silent payload s rfl)

theorem jframePutTmsTdi_pins (s : State) (len : BitVec 32) (payload : List Byte) :
    exec (.jframePutTmsTdi len payload) s = .next { s with
      pins := s.pins ++ (List.range len.toNat).map fun t =>
        .cycle (bitAt (evenBytes payload) t) (bitAt (oddBytes payload) t) none
      physTap := runTap s.physTap ((List.range len.toNat).map (bitAt (evenBytes payload))) } :=
  congrArg _ (deviceFrame_silent payload s rfl)

theorem jframeGetTdo_pins (s : State) (len : BitVec 32) :
    exec (.jframeGetTdo len) s = .next { used 0 0 (ceil8 len.toNat) 0 s with
      pins := s.pins ++ readCycles false (unpackBits (nextReply (ceil8 len.toNat) s) len.toNat)
      physTap := runTap s.physTap (List.replicate len.toNat false)
      inbound := s.inbound ++ nextReply (ceil8 len.toNat) s } := by
  have hcycles : frameCycles len.toNat flagsRead [] (nextReply (ceil8 len.toNat) s) =
      readCycles false (unpackBits (nextReply (ceil8 len.toNat) s) len.toNat) := frameCycles_read _ _ rfl rfl rfl rfl
  have hlow : frameTms len.toNat flagsRead [] = List.replicate len.toNat false := frameTms_static _ _ rfl
  rw [← hlow, ← hcycles]
  exact congrArg _ (deviceFrame_j [] s rfl)

theorem jframeGetTdoExit_pins (s : State) (len : BitVec 32) :
    exec (.jframeGetTdoExit len) s = .next { used 0 0 (ceil8 len.toNat) 0 s with
      pins := s.pins ++ readCycles true (unpackBits (nextReply (ceil8 len.toNat) s) len.toNat)
      physTap := runTap s.physTap (List.replicate len.toNat true)
      inbound := s.inbound ++ nextReply (ceil8 len.toNat) s } := by
  have hcycles : frameCycles len.toNat flagsExit [] (nextReply (ceil8 len.toNat) s) =
      readCycles true (unpackBits (nextReply (ceil8 len.toNat) s) len.toNat) := frameCycles_read _ _ rfl rfl rfl rfl
  have hhigh : frameTms len.toNat flagsExit [] = List.replicate len.toNat true := frameTms_static _ _ rfl
  rw [← hhigh, ← hcycles]
  exact congrArg _ (deviceFrame_j [] s rfl)

/-- Settles O50: the five rows by their flags bytes, and any other J-frame by its flags. -/
theorem jframesDrivePins : Obligations.JframesDrivePins := by
  refine ⟨fun s len payload => ⟨jframePutTms_pins s len payload, jframePutTdi_pins s len payload,
    jframePutTmsTdi_pins s len payload⟩, ?_, ?_⟩
  · rintro s len y rfl
    exact ⟨jframeGetTdo_pins s len, jframeGetTdoExit_pins s len⟩
  · intro s len flags payload rest k hin hflags hlen hpayload hk
    have hnamed : hasFlag flags flagsUnnamed = false := by
      rw [← Bool.not_eq_true, hasFlag_unnamed_iff]; omega
    have hknown := (jframeKnown_iff len flags payload).2 ⟨hlen, hpayload.trans (payloadLength_eq flags _).symm, hnamed⟩
    refine ⟨tmsPin flags payload, tdiPin flags payload, tdoPin flags (nextReply k s), fun t _ => ⟨?_, ?_, ?_⟩, ?_⟩
    · rw [tmsPin, tmsPart, hasFlag_putTms, hasFlag_putTdi, hasFlag_tmsVal]
    · rw [tdiPin, tdiPart, hasFlag_putTms, hasFlag_putTdi, hasFlag_tdiVal]
    · rw [tdoPin, hasFlag_getTdo]
    · rw [step_jframe hin hknown]
      exact congrArg _ (deviceFrame_j payload { s with inputs := rest } hk)

/-- Settles O51: the pulses hold the target in `RTI` with TMS low and free it otherwise. -/
theorem rframePulsesAndEchoes : Obligations.RframePulsesAndEchoes := by
  rintro s n y rfl
  refine ⟨length_nextReply 5 s, frameTap (.r n) s, ?_, fun hreplica htarget hlevel => ?_, rfl⟩
  · by_cases hhold : pulsesHold s = true
    · obtain ⟨_, htarget, _⟩ := (pulsesHold_iff s).1 hhold
      exact frameTap_ne_inv (.r n) (by rw [htarget]; decide)
    · rw [frameTap, if_neg hhold]
      exact ieeeState_ne_inv _
  · have hhold : pulsesHold s = true := (pulsesHold_iff s).2 ⟨hreplica, htarget, hlevel⟩
    rw [frameTap, if_pos hhold, htarget]

end Sys2Proof.Machine
end

section
/-! What an operation puts on the port: whole well-formed frames of the table, within its bound of transfers
(20_memory.md R61, 30_encoding.md R93, R95, R99, 70_reset_and_hazards.md R345). -/

namespace Sys2Proof.Machine

open Sys2Proof.Config

/-! ### Transfers added to the record of the port -/

/-- A frame is a well-formed row of the table. -/
def IsRow (f : Frame) : Prop := ∃ i : Instr, frameOf i = some f ∧ i.wellFormed = true

/-- What a transfer writes, delivered or not, is one whole frame of the table; a read writes nothing. -/
def WritesRow (p : Params) : Transaction → Prop
  | .write bytes | .writeFailed bytes _ => ∃ f, IsRow f ∧ bytes = frameBytes p f
  | .read _ _ | .readFailed _ _ => True

/-- At most `n` transfers lead from `s` to `t`, each write a whole frame of the table. -/
def Adds (n : Nat) (s t : State) : Prop :=
  t.params = s.params ∧ ∃ made, t.port = s.port ++ made ∧ made.length ≤ n ∧ ∀ x ∈ made, WritesRow s.params x

/-- No transfer at all. -/
theorem Adds.none {s t : State} (hparams : t.params = s.params) (hport : t.port = s.port) (n : Nat) : Adds n s t :=
  ⟨hparams, [], by rw [hport, List.append_nil], Nat.zero_le n, by simp⟩

theorem Adds.one {s t : State} {x : Transaction} (hparams : t.params = s.params) (hport : t.port = s.port ++ [x])
    (hx : WritesRow s.params x) : Adds 1 s t :=
  ⟨hparams, [x], hport, Nat.le_refl 1, by simpa using hx⟩

theorem Adds.trans {s t u : State} {m n : Nat} (h : Adds m s t) (k : Adds n t u) : Adds (m + n) s u := by
  obtain ⟨hparams, made, hport, hlen, hrows⟩ := h
  obtain ⟨kparams, more, kport, klen, krows⟩ := k
  refine ⟨kparams.trans hparams, made ++ more, ?_, ?_, fun x hx => ?_⟩
  · rw [kport, hport, List.append_assoc]
  · rw [List.length_append]; omega
  · rcases List.mem_append.1 hx with hx | hx
    · exact hrows x hx
    · exact hparams ▸ krows x hx

theorem Adds.mono {s t : State} {m n : Nat} (h : Adds m s t) (hmn : m ≤ n) : Adds n s t := by
  obtain ⟨hparams, made, hport, hlen, hrows⟩ := h
  exact ⟨hparams, made, hport, hlen.trans hmn, hrows⟩

/-- Changes to other fields before the transfers do not matter. -/
theorem Adds.of_eq {s q t : State} {n : Nat} (h : Adds n q t) (hparams : q.params = s.params)
    (hport : q.port = s.port) : Adds n s t := by
  have hadds := (Adds.none hparams hport 0).trans h
  rwa [Nat.zero_add] at hadds

/-- The completion of an operation transfers nothing. -/
theorem Adds.complete {s t : State} {n : Nat} (h : Adds n s t) (c : Cause) (r : Result) : Adds n s (complete c r t) :=
  h.trans (.none rfl rfl 0)

/-- The error exit transfers nothing. -/
theorem Adds.raise {s t : State} {n : Nat} (h : Adds n s t) (c : Cause) (r : Result) : Adds n s (raise c r t) :=
  h.trans (.none rfl rfl 0)

/-- A refused operation transfers nothing. -/
theorem guarded_adds {s after : State} {n : Nat} {checks : List (Bool × Check)} {r : Result} (h : Adds n s after) :
    Adds n s (guarded checks r s after) := by
  rcases guarded_cases checks r s after with ⟨_, e⟩ | ⟨k, _, _, e⟩ <;> rw [e]
  · exact h
  · exact .none rfl rfl n

theorem emitFrame_adds {f : Frame} (hf : IsRow f) (s : State) : Adds 1 s (emitFrame f s).2 := by
  rcases emitFrame_cases f s with ⟨_, h⟩ | ⟨_, _, h⟩ | ⟨why, d, _, _, h⟩ <;> rw [h]
  · exact .none rfl rfl 1
  · exact .one rfl rfl ⟨f, hf, rfl⟩
  · exact .one rfl rfl ⟨f, hf, rfl⟩

theorem portRead_adds (n : Nat) (s : State) : Adds 1 s (portRead n s).state := by
  rcases portRead_cases n s with ⟨_, h⟩ | ⟨_, _, _, h⟩ | ⟨why, pending, _, _, h⟩ <;> rw [h]
  · exact .none rfl rfl 1
  · exact .one rfl rfl trivial
  · exact .one rfl rfl trivial

theorem emitAll_adds {fs : List Frame} (hfs : ∀ f ∈ fs, IsRow f) (s : State) : Adds fs.length s (emitAll fs s).2 := by
  induction fs generalizing s with
  | nil => exact .none rfl rfl 0
  | cons f rest ih =>
    have hf := emitFrame_adds (hfs f List.mem_cons_self) s
    rw [emitAll_cons, List.length_cons, Nat.add_comm]
    split
    · exact hf.trans (ih (fun g hg => hfs g (List.mem_cons_of_mem _ hg)) _)
    · exact hf.mono (Nat.le_add_right 1 _)

theorem scanTdo_adds {n : Nat} {flags : Byte} (hf : IsRow (.j (count32 n) flags [])) (s : State) :
    Adds 2 s (scanTdo n flags s).state := by
  have he := emitFrame_adds hf s
  rcases scanTdo_cases n flags s with ⟨c, s1, hs1, _, h⟩ | ⟨s1, c, s2, y, hs1, hr, _, h⟩ | ⟨s1, s2, y, hs1, hr, h⟩ <;>
    rw [hs1] at he <;> rw [h]
  · exact he.mono (by decide)
  all_goals
    have hp := portRead_adds (ceil8 n) s1
    rw [hr] at hp
    exact he.trans hp

/-! ### The frames the engine writes are rows of the table -/

theorem frameFits_count32 {n : Nat} {flags : Byte} {payload : List Byte} (hpos : 0 < n) (hn : n < 2 ^ 32)
    (hpayload : payload.length = payloadLength flags n) : frameFits (count32 n) flags payload = true := by
  simp only [frameFits, count32_toNat hn, Bool.and_eq_true, decide_eq_true_eq, beq_iff_eq]
  exact ⟨hpos, hpayload⟩

theorem isRow_tms {s : BitStream} (hpos : 0 < s.length) (hn : s.length < 2 ^ 32) :
    IsRow (.j (count32 s.length) flagsTms (packBits s)) :=
  ⟨.jframePutTms _ _, rfl, frameFits_count32 hpos hn (length_packBits s)⟩

theorem isRow_tdi {s : BitStream} {n : Nat} (hlen : s.length = n) (hpos : 0 < n) (hn : n < 2 ^ 32) :
    IsRow (.j (count32 n) flagsTdi (packBits s)) := by
  subst hlen
  exact ⟨.jframePutTdi _ _, rfl, frameFits_count32 hpos hn (length_packBits s)⟩

theorem isRow_tmsTdi {a b : BitStream} {n : Nat} (ha : a.length = n) (hb : b.length = n) (hpos : 0 < n)
    (hn : n < 2 ^ 32) : IsRow (.j (count32 n) flagsTmsTdi (interleaveBytes (packBits a) (packBits b))) := by
  refine ⟨.jframePutTmsTdi _ _, rfl, frameFits_count32 hpos hn ?_⟩
  rw [length_interleaveBytes _ _ (by rw [length_packBits, length_packBits, ha, hb]), length_packBits, ha]
  rfl

theorem isRow_read {n : Nat} (hpos : 0 < n) (hn : n < 2 ^ 32) : IsRow (.j (count32 n) flagsRead []) :=
  ⟨.jframeGetTdo _, rfl, frameFits_count32 hpos hn rfl⟩

theorem isRow_exit : IsRow (.j (count32 1) flagsExit []) := ⟨.jframeGetTdoExit _, rfl, rfl⟩

theorem isRow_pulses (n : BitVec 32) : IsRow (.r n) := ⟨.rframe n, rfl, rfl⟩

/-- A flush writes at most two frames, each a row of the table: no bit count is 0 (R93, R217). -/
theorem flushFrames_rows {tms tdi : BitStream} (hm : flushCase tms.length tdi.length ≠ .mismatch)
    (hc : flushCounts tms.length tdi.length = true) :
    (flushFrames tms tdi).length ≤ 2 ∧ ∀ f ∈ flushFrames tms tdi, IsRow f := by
  by_cases hnil : tms = [] ∧ tdi = []
  · obtain ⟨rfl, rfl⟩ := hnil
    exact ⟨by decide, fun f hf => absurd hf List.not_mem_nil⟩
  have hpos : 0 < tms.length + tdi.length := by
    rw [← List.length_eq_zero_iff, ← List.length_eq_zero_iff] at hnil; omega
  rcases flushFrames_cases hm hc with ⟨ht, hd, h⟩ | ⟨hd, hn, h⟩ | ⟨ht, hn, h⟩ | ⟨he, hn, h⟩ | ⟨h1, h2, hn, h⟩
  · exact absurd ⟨ht, hd⟩ hnil
  all_goals
    rw [h]
    refine ⟨by simp, ?_⟩
    simp only [List.forall_mem_cons, List.not_mem_nil, false_implies, implies_true, and_true]
  · exact isRow_tms (by simpa [hd] using hpos) hn
  · exact isRow_tdi rfl (by simpa [ht] using hpos) hn
  · exact isRow_tmsTdi rfl he.symm (by omega) hn
  · exact ⟨isRow_tdi (length_belowTop tdi 1) (by omega) hn,
      isRow_tmsTdi h1 (length_topBits tdi 1 (by omega)) (by decide) (by decide)⟩

/-! ### The transfers of each operation -/

theorem flushBuffers_adds {q : State} (hc : flushCounts q.tmsBuf.length q.tdiBuf.length = true) :
    Adds 2 q (flushBuffers q) := by
  rcases flushBuffers_cases q with ⟨_, e⟩ | ⟨c, t, hm, ht, hend⟩
  · rw [e]; exact .none rfl rfl 2
  · obtain ⟨hlen, hrows⟩ := flushFrames_rows hm hc
    have hall := emitAll_adds hrows { q with tmsBuf := [], tdiBuf := [] }
    rw [ht] at hall
    have hadds : Adds 2 q t := (hall.mono hlen).of_eq rfl rfl
    rcases hend with ⟨_, e⟩ | ⟨_, e⟩ <;> rw [e]
    · rw [← complete_noError]; exact hadds.complete .noError .none
    · exact hadds.raise c .none

theorem readPlain_adds {n : Nat} (hn : n < 2 ^ 32) (out : BitStream) (s : State) : Adds 2 s (readPlain n out s) := by
  by_cases h0 : n = 0
  · rw [readPlain, if_pos h0]; exact .none rfl rfl 2
  · have hscan := scanTdo_adds (isRow_read (Nat.pos_of_ne_zero h0) hn) s
    rw [readPlain, if_neg h0]
    split
    next bits t ht => rw [ht] at hscan; exact hscan.complete _ _
    next c bits t _ ht => rw [ht] at hscan; exact hscan.raise _ _

theorem readExit_adds (first out : BitStream) (s : State) : Adds 2 s (readExit first out s) := by
  have hscan : Adds 2 s _ := (scanTdo_adds isRow_exit { s with tapState := nextTap s.tapState true }).of_eq rfl rfl
  rw [readExit]
  split
  next bits t ht => rw [ht] at hscan; exact hscan.complete _ _
  next c bits t _ ht => rw [ht] at hscan; exact hscan.raise _ _

theorem readThenExit_adds {n : Nat} (hn : n < 2 ^ 32) (out : BitStream) (s : State) :
    Adds 4 s (readThenExit n out s) := by
  by_cases h1 : n ≤ 1
  · rw [readThenExit, if_pos h1]; exact (readExit_adds [] out s).mono (by decide)
  · have hscan := scanTdo_adds (isRow_read (n := n - 1) (by omega) (by omega)) s
    rw [readThenExit, if_neg h1]
    split
    next bits t ht => rw [ht] at hscan; exact hscan.trans (readExit_adds bits out t)
    next c bits t _ ht => rw [ht] at hscan; exact (hscan.raise c (.stream out)).mono (by decide)

theorem checkEcho_adds {s t : State} {n : Nat} (h : Adds n s t) (y : List Byte) : Adds n s (checkEcho y t) := by
  unfold checkEcho
  split
  · exact h.complete _ _
  · exact h.raise _ _

theorem execRunTest_adds {n : Nat} {s t : State} (h : exec (.runTest n) s = .next t) : Adds 2 s t := by
  have hemit := emitFrame_adds (isRow_pulses (count32 n)) s
  cases h
  refine guarded_adds ?_
  split
  next s1 hs1 =>
    rw [hs1] at hemit
    have hread := hemit.trans (portRead_adds echoBytes s1)
    split
    next y s2 hs2 => rw [hs2] at hread; exact checkEcho_adds hread y
    next c y s2 _ hs2 => rw [hs2] at hread; exact hread.raise _ _
  next c s1 _ hs1 => rw [hs1] at hemit; exact (hemit.raise c .none).mono (by decide)

/-- An instruction makes at most as many transfers as R345 says. -/
theorem exec_adds {i : Instr} {s t : State} (h : exec i s = .next t) : Adds (mostTransfers i) s t := by
  cases exec_ran h with
  | refused k request => exact .none rfl rfl _
  | answered r pure => exact .none rfl rfl _
  | frame hf => exact .none rfl rfl _
  | flushed queues counts =>
    have hflush := flushBuffers_adds counts
    cases queues with
    | flush => exact hflush
    | resetTap => exact hflush.of_eq rfl rfl
    | goThruStates walk => exact hflush.of_eq rfl rfl
    | shiftTdi bits e shift tms => exact hflush.of_eq (queueShift_params bits e s) (queueShift_portStill bits e s).1
  | queued bits e shift tms room roomTms => exact .none (queueShift_params bits e s) (queueShift_portStill bits e s).1 _
  | read out shift tms tdi count => exact (readPlain_adds count out s).mono (show 2 ≤ 4 by decide)
  | readExit out shift tms tdi count pos => exact readThenExit_adds count out s
  | pulsed tms tdi count transferred hold => exact execRunTest_adds h

/-- Settles O56: what an instruction adds to the port's record, each frame being the encoding of its row. -/
theorem writtenFramesAreWellFormed : Obligations.WrittenFramesAreWellFormed := by
  intro s t i h
  obtain ⟨_, made, hport, hlen, hrows⟩ := exec_adds h
  refine ⟨made, hport, hlen, fun bytes why hwritten => ?_⟩
  have hrow : ∃ f, IsRow f ∧ bytes = frameBytes s.params f := by
    rcases hwritten with hx | hx <;> exact hrows _ hx
  obtain ⟨f, ⟨j, hj, hwf⟩, rfl⟩ := hrow
  exact ⟨j, by rw [isRequest, hj]; rfl, hwf, encode_frame hj s.params⟩

end Sys2Proof.Machine
end

section
/-! The values and positions of streams, strings and windows, and how an operation that only answers ends: its answer
where its checks hold, the violation of the first that fails. -/

namespace Sys2Proof.Machine

/-! ### The first check that fails -/

theorem firstFailure_append (checks more : List (Bool × Check)) :
    firstFailure (checks ++ more) = (firstFailure checks).or (firstFailure more) := by
  induction checks with
  | nil => rfl
  | cons c rest ih =>
    obtain ⟨b, k⟩ := c
    cases b
    · rfl
    · exact ih

theorem firstFailure_pass {p : Prop} [Decidable p] (h : p) (k : Check) (rest : List (Bool × Check)) :
    firstFailure ((decide p, k) :: rest) = firstFailure rest := by
  rw [decide_eq_true h]; rfl

theorem firstFailure_fail {p : Prop} [Decidable p] (h : ¬ p) (k : Check) (rest : List (Bool × Check)) :
    firstFailure ((decide p, k) :: rest) = some k := by
  rw [decide_eq_false h]; rfl

/-! ### How an answer ends -/

theorem answer_of_checks {checks : List (Bool × Check)} (hc : firstFailure checks = none) (r : Result) (s : State) :
    answer checks r s = .next (answered r s) :=
  next_guarded ((firstFailure_none checks).1 hc) (complete_noError r s)

theorem answerStream_of_fits {checks : List (Bool × Check)} {r : BitStream} {s : State}
    (hc : firstFailure checks = none) (hfit : s.fits r.length = true) :
    answerStream checks r s = .next (answered (.stream r) s) :=
  answer_of_checks (by rw [firstFailure_append, hc, hfit]; rfl) _ s

theorem answerPopped_of_fits {checks : List (Bool × Check)} {kept removed : BitStream} {s : State}
    (hc : firstFailure checks = none) (hk : s.fits kept.length = true) (hr : s.fits removed.length = true) :
    answerPopped checks kept removed s = .next (answered (.popped kept removed) s) :=
  answer_of_checks (by rw [firstFailure_append, hc, hk, hr]; rfl) _ s

theorem violates_of_answer {i : Instr} {s : State} {checks : List (Bool × Check)} {r : Result} {k : Check}
    (he : exec i s = answer checks r s) (hk : firstFailure checks = some k) : violates i s k :=
  ⟨violate k .none s, by rw [he, answer, guarded, hk], rfl⟩

theorem violates_of_answerStream {i : Instr} {s : State} {checks : List (Bool × Check)} {r : BitStream} {k : Check}
    (he : exec i s = answerStream checks r s) (hk : firstFailure checks = some k) : violates i s k :=
  violates_of_answer he (by rw [firstFailure_append, hk]; rfl)

theorem violates_of_answerPopped {i : Instr} {s : State} {checks : List (Bool × Check)} {kept removed : BitStream}
    {k : Check} (he : exec i s = answerPopped checks kept removed s) (hk : firstFailure checks = some k) :
    violates i s k :=
  violates_of_answer he (by rw [firstFailure_append, hk]; rfl)

/-- The bound of `FIFO_DEPTH` is the last check of an operation that gives a stream (R152). -/
theorem violates_capacityOverflow {i : Instr} {s : State} {checks : List (Bool × Check)} {r : BitStream}
    (he : exec i s = answerStream checks r s) (hc : firstFailure checks = none) (hfit : s.fits r.length = false) :
    violates i s .capacityOverflow :=
  violates_of_answer he (by rw [firstFailure_append, hc, hfit]; rfl)

theorem fits_mono {s : State} {m n : Nat} (h : m ≤ n) (hn : s.fits n = true) : s.fits m = true := by
  unfold State.fits at hn ⊢
  split
  · rfl
  next d hd =>
    rw [hd] at hn
    exact decide_eq_true (h.trans (of_decide_eq_true hn))

theorem fits_of_lt_depth {s : State} {d n : Nat} (hd : s.params.fifoDepth = some d) (h : d < n) : s.fits n = false := by
  simp only [State.fits, hd, decide_eq_false_iff_not]
  omega

/-! ### The checks of a peek and of a slice -/

theorem peekChecks_eq (a : BitStream) (k : Nat) :
    peekChecks a k = [(decide (1 ≤ k ∧ k ≤ 64), .widthRange), (decide (k ≤ a.length), .underflow)] := by
  rw [Bool.decide_and]; rfl

theorem peekChecks_hold {a : BitStream} {k : Nat} (hpos : 1 ≤ k) (hk : k ≤ 64) (hlen : k ≤ a.length) :
    firstFailure (peekChecks a k) = none := by
  rw [peekChecks_eq, firstFailure_pass ⟨hpos, hk⟩, firstFailure_pass hlen]; rfl

theorem peekChecks_width (a : BitStream) {k : Nat} (h : k < 1 ∨ 64 < k) :
    firstFailure (peekChecks a k) = some .widthRange := by
  rw [peekChecks_eq, firstFailure_fail (by omega)]

theorem peekChecks_length {a : BitStream} {k : Nat} (hpos : 1 ≤ k) (hk : k ≤ 64) (hlen : a.length < k) :
    firstFailure (peekChecks a k) = some .underflow := by
  rw [peekChecks_eq, firstFailure_pass ⟨hpos, hk⟩, firstFailure_fail (by omega)]

theorem sliceChecks_eq (a : BitStream) (first last : Nat) :
    sliceChecks a first last = [(decide (first ≤ last ∧ last ≤ a.length), .sliceRange)] := by
  rw [Bool.decide_and]; rfl

theorem sliceChecks_hold {a : BitStream} {first last : Nat} (h : first ≤ last) (hlen : last ≤ a.length) :
    firstFailure (sliceChecks a first last) = none := by
  rw [sliceChecks_eq, firstFailure_pass ⟨h, hlen⟩]; rfl

theorem sliceChecks_range {a : BitStream} {first last : Nat} (h : last < first ∨ a.length < last) :
    firstFailure (sliceChecks a first last) = some .sliceRange := by
  rw [sliceChecks_eq, firstFailure_fail (by omega)]

/-! ### Positions and values of streams -/

theorem getElem?_bitsOf {k i : Nat} (h : i < k) (v : Nat) : (bitsOf k v)[i]? = some (v.testBit i) := by
  simp [bitsOf, h]

/-- The integer of a stream has each position as its bit (R10). -/
theorem getElem?_eq_testBit_val {s : BitStream} {i : Nat} (h : i < s.length) : s[i]? = some ((val s).testBit i) := by
  rw [testBit_val, List.getD_eq_getElem?_getD, List.getElem?_eq_getElem h, Option.getD_some]

theorem length_bitsOfBytes {a : List Byte} {n : Nat} (h : n ≤ a.length) : (bitsOfBytes a n).length = n := by
  simp [bitsOfBytes, h]

theorem getElem?_bitsOfBytes {a : List Byte} {n i : Nat} (hn : n ≤ a.length) (hi : i < n) :
    (bitsOfBytes a n)[i]? = some (a.getD i 0 != 0) := by
  have hia : i < a.length := by omega
  simp [bitsOfBytes, hi, hia]

theorem getElem?_window {s : BitStream} {first last i : Nat} (h : i < last - first) :
    (window s first last)[i]? = s[first + i]? := by
  simp [window, h]

/-- A window is determined by its positions. -/
theorem eq_window {s w : BitStream} {first last : Nat} (hlast : last ≤ s.length) (hlen : w.length = last - first)
    (hpos : ∀ i, i < last - first → w[i]? = s[first + i]?) : w = window s first last := by
  refine List.ext_getElem? fun i => ?_
  by_cases hi : i < last - first
  · rw [hpos i hi, getElem?_window hi]
  · rw [List.getElem?_eq_none (by omega), List.getElem?_eq_none (by rw [length_window _ _ _ hlast]; omega)]

theorem getElem?_topBits (s : BitStream) (k j : Nat) : (topBits s k)[j]? = s[s.length - k + j]? := List.getElem?_drop

theorem topBits_append (a b : BitStream) : topBits (a ++ b) b.length = b := by simp [topBits]

theorem belowTop_append (a b : BitStream) : belowTop (a ++ b) b.length = a := by simp [belowTop]

/-- The integer of the `k` positions nearest the back: its bound and its bits (R139, R142). -/
theorem val_topBits_spec {s : BitStream} {k : Nat} (h : k ≤ s.length) :
    val (topBits s k) < 2 ^ k ∧ ∀ j, j < k → s[s.length - k + j]? = some ((val (topBits s k)).testBit j) := by
  have hlen := length_topBits s k h
  refine ⟨(val_lt _).trans_eq (by rw [hlen]), fun j hj => ?_⟩
  rw [← getElem?_topBits, getElem?_eq_testBit_val (by rwa [hlen])]

/-- A stream of 64 bits or fewer is converted whole (R142). -/
theorem intOf_of_le {s : BitStream} (h : s.length ≤ 64) : intOf s = val s := by
  rw [intOf, intWidth, min_eq_left h, topBits, Nat.sub_self, List.drop_zero]

/-- The value of a concatenation is the OR of the two values, the upper one shifted (R140, R150 (d)). -/
theorem intOf_append {a b : BitStream} (h : a.length + b.length ≤ 64) :
    intOf (a ++ b) = (intOf b <<< a.length) ||| intOf a := by
  have hab : (a ++ b).length ≤ 64 := by rwa [List.length_append]
  rw [intOf_of_le hab, intOf_of_le (s := a) (by omega), intOf_of_le (s := b) (by omega), val_append,
    ← Nat.shiftLeft_add_eq_or_of_lt (val_lt a), Nat.shiftLeft_eq]
  ring

/-- The integer of `bits_k(v)` is `v` masked to its `k` low bits (R150 (a)). -/
theorem intOf_bitsOf {k : Nat} (h : k ≤ 64) (v : Nat) : intOf (bitsOf k v) = v &&& (2 ^ k - 1) := by
  rw [intOf_of_le (by rwa [length_bitsOf]), val_bitsOf, Nat.and_two_pow_sub_one_eq_mod]

/-! ### Binary-digit strings -/

theorem all_isDigit_iff (str : List Char) : str.all isDigit = true ↔ ∀ c ∈ str, c = '0' ∨ c = '1' := by
  simp [isDigit]

theorem length_bitsOfString (str : List Char) : (bitsOfString str).length = str.length := by simp [bitsOfString]

theorem getElem?_bitsOfString {str : List Char} {i : Nat} (h : i < str.length) :
    (bitsOfString str)[i]? = (str[str.length - 1 - i]?).map fun c => c == '1' := by
  rw [bitsOfString, List.getElem?_reverse (by simpa using h), List.length_map, List.getElem?_map]

theorem length_stringOfBits (s : BitStream) : (stringOfBits s).length = s.length := by simp [stringOfBits]

theorem getElem?_stringOfBits {s : BitStream} {j : Nat} (h : j < s.length) :
    (stringOfBits s)[j]? = (s[s.length - 1 - j]?).map fun b => if b then '1' else '0' := by
  rw [stringOfBits, List.getElem?_reverse (by simpa using h), List.length_map, List.getElem?_map]

theorem bitsOfString_stringOfBits (s : BitStream) : bitsOfString (stringOfBits s) = s := by
  have hbit : ∀ b : Bool, ((if b then '1' else '0') == '1') = b := by decide
  simp [bitsOfString, stringOfBits, List.map_reverse, Function.comp_def, hbit]

/-- Reading a binary-digit string and writing it again gives the string (R150 (b)). -/
theorem stringOfBits_bitsOfString {str : List Char} (h : ∀ c ∈ str, c = '0' ∨ c = '1') :
    stringOfBits (bitsOfString str) = str := by
  have hdigit : ∀ c ∈ str, (if c == '1' then '1' else '0') = c := by
    intro c hc
    rcases h c hc with rfl | rfl <;> rfl
  rw [stringOfBits, bitsOfString, List.map_reverse, List.reverse_reverse, List.map_map]
  exact (List.map_congr_left hdigit).trans (List.map_id' str)

end Sys2Proof.Machine
end

section
/-! The statements of 40_bitstream.md: what each bit FIFO operation answers, and which check refuses a call. -/

namespace Sys2Proof.Machine

/-! ### Streams from integers, bytes and strings -/

/-- Settles O8: the result is `bits_k(v)`, behind the width check. -/
theorem bsFromIntResult : Obligations.BsFromIntResult := by
  intro s v k
  refine ⟨fun hk hfit => ?_, fun hk => violates_of_answerStream rfl (firstFailure_fail (Nat.not_le.2 hk) _ _)⟩
  have hlen := length_bitsOf k v.toNat
  exact ⟨bitsOf k v.toNat, answerStream_of_fits (firstFailure_pass hk _ _) (by rwa [hlen]), hlen,
    fun i hi => getElem?_bitsOf hi _⟩

/-- Settles O9: the result is one bit per byte taken, behind the check of their number. -/
theorem bsFromBytesResult : Obligations.BsFromBytesResult := by
  intro s a n
  refine ⟨fun hn hfit => ?_, fun hn => violates_of_answerStream rfl (firstFailure_fail (Nat.not_le.2 hn) _ _)⟩
  have hlen := length_bitsOfBytes hn
  exact ⟨bitsOfBytes a n, answerStream_of_fits (firstFailure_pass hn _ _) (by rwa [hlen]), hlen,
    fun i hi => getElem?_bitsOfBytes hn hi⟩

theorem badDigit_checks_hold {str : List Char} (h : ∀ c ∈ str, c = '0' ∨ c = '1') :
    firstFailure [(str.all isDigit, .badDigit)] = none := by
  rw [(all_isDigit_iff str).2 h]; rfl

theorem badDigit_checks_fail {str : List Char} (h : ∃ c ∈ str, c ≠ '0' ∧ c ≠ '1') :
    firstFailure [(str.all isDigit, .badDigit)] = some .badDigit := by
  obtain ⟨c, hc, h0, h1⟩ := h
  have hall : str.all isDigit = false :=
    Bool.eq_false_iff.2 fun hall => ((all_isDigit_iff str).1 hall c hc).elim h0 h1
  rw [hall]; rfl

/-- Settles O10: the result is the reversed string read digit by digit, behind the check of its characters. -/
theorem bsFromStringResult : Obligations.BsFromStringResult := by
  intro s str
  refine ⟨fun hstr hfit => ?_, fun hbad => violates_of_answerStream rfl (badDigit_checks_fail hbad)⟩
  have hlen := length_bitsOfString str
  exact ⟨bitsOfString str, answerStream_of_fits (badDigit_checks_hold hstr) (by rwa [hlen]), hlen,
    fun i hi => getElem?_bitsOfString hi⟩

/-! ### Pushes and concatenation -/

theorem pushWidth_hold {b : PushArg} (h : pushWidthOk b = true) :
    firstFailure [(pushWidthOk b, .widthRange)] = none := by
  rw [h]; rfl

theorem exec_pushBack {b : PushArg} (hw : pushWidthOk b = true) {a : BitStream} {s : State}
    (hfit : s.fits (a.length + (pushBits b).length) = true) :
    exec (.pushBack a b) s = .next (answered (.stream (a ++ pushBits b)) s) :=
  answerStream_of_fits (pushWidth_hold hw) (by rwa [List.length_append])

theorem exec_pushFront {b : PushArg} (hw : pushWidthOk b = true) {a : BitStream} {s : State}
    (hfit : s.fits (a.length + (pushBits b).length) = true) :
    exec (.pushFront a b) s = .next (answered (.stream (pushBits b ++ a)) s) :=
  answerStream_of_fits (pushWidth_hold hw) (by rwa [List.length_append, Nat.add_comm])

theorem pushWidthOk_int {k : Nat} (h : k ≤ 64) (v : BitVec 64) : pushWidthOk (.int v k) = true := decide_eq_true h

/-- With its width in range the integer operand is the stream `bs_from_int` gives for it (R134). -/
theorem exec_pushBack_int {k : Nat} (h : k ≤ 64) (a : BitStream) (v : BitVec 64) (s : State) :
    exec (.pushBack a (.int v k)) s = exec (.pushBack a (.stream (bitsOf k v.toNat))) s := by
  show execPushBack a (.int v k) s = _
  rw [execPushBack, pushWidthOk_int h]; rfl

theorem exec_pushFront_int {k : Nat} (h : k ≤ 64) (a : BitStream) (v : BitVec 64) (s : State) :
    exec (.pushFront a (.int v k)) s = exec (.pushFront a (.stream (bitsOf k v.toNat))) s := by
  show execPushFront a (.int v k) s = _
  rw [execPushFront, pushWidthOk_int h]; rfl

/-- Two streams joined: every position of the lower one, then every position of the upper one. -/
theorem append_positions (a b : BitStream) :
    (∀ i, i < a.length → (a ++ b)[i]? = a[i]?) ∧ ∀ j, j < b.length → (a ++ b)[a.length + j]? = b[j]? := by
  refine ⟨fun i hi => List.getElem?_append_left hi, fun j _ => ?_⟩
  rw [List.getElem?_append_right (Nat.le_add_right _ _), Nat.add_sub_cancel_left]

/-- Settles O11: the result is `a` and above it what is pushed. -/
theorem pushBackResult : Obligations.PushBackResult := by
  intro s a b v k
  have hlen : (a ++ b).length = a.length + b.length := List.length_append
  refine ⟨fun hfit => ?_, fun hfit => ?_, fun hk => exec_pushBack_int hk a v s, fun hk => ?_⟩
  · exact ⟨a ++ b, exec_pushBack (b := .stream b) rfl hfit, hlen, append_positions a b⟩
  · exact violates_capacityOverflow rfl (pushWidth_hold (b := .stream b) rfl) (hlen ▸ hfit)
  · exact violates_of_answerStream rfl (firstFailure_fail (Nat.not_le.2 hk) _ _)

/-- Settles O12: the result is what is pushed and above it `a`. -/
theorem pushFrontResult : Obligations.PushFrontResult := by
  intro s a b v k
  have hlen : (b ++ a).length = a.length + b.length := by rw [List.length_append, Nat.add_comm]
  refine ⟨fun hfit => ?_, fun hfit => ?_, fun hk => exec_pushFront_int hk a v s, fun hk => ?_⟩
  · exact ⟨b ++ a, exec_pushFront (b := .stream b) rfl hfit, hlen, append_positions b a⟩
  · exact violates_capacityOverflow rfl (pushWidth_hold (b := .stream b) rfl) (hlen ▸ hfit)
  · exact violates_of_answerStream rfl (firstFailure_fail (Nat.not_le.2 hk) _ _)

/-- Settles O17: the result is `a ++ b`, whose value `intOf_append` gives; the two pushes make the same stream. -/
theorem concatResult : Obligations.ConcatResult := by
  intro s a b
  have hlen : (a ++ b).length = a.length + b.length := List.length_append
  refine ⟨fun hfit => ?_, fun hfit => violates_capacityOverflow rfl rfl (hlen ▸ hfit), rfl, rfl⟩
  obtain ⟨hlow, hhigh⟩ := append_positions a b
  exact ⟨a ++ b, answerStream_of_fits rfl (hlen ▸ hfit), hlen, hlow, hhigh, intOf_append⟩

/-! ### Pops -/

/-- Popping as many bits as the upper part has takes just that part (R136). -/
theorem exec_popBack {kept removed : BitStream} {s : State} (hk : s.fits kept.length = true)
    (hr : s.fits removed.length = true) :
    exec (.popBack (kept ++ removed) removed.length) s = .next (answered (.popped kept removed) s) := by
  show execPopBack _ _ s = _
  rw [execPopBack, belowTop_append, topBits_append]
  exact answerPopped_of_fits (firstFailure_pass (by simp) _ _) hk hr

/-- Popping as many bits as the lower part has takes just that part (R137). -/
theorem exec_popFront {kept removed : BitStream} {s : State} (hk : s.fits kept.length = true)
    (hr : s.fits removed.length = true) :
    exec (.popFront (removed ++ kept) removed.length) s = .next (answered (.popped kept removed) s) := by
  show execPopFront _ _ s = _
  rw [execPopFront, List.drop_left, List.take_left]
  exact answerPopped_of_fits (firstFailure_pass (by simp) _ _) hk hr

/-- Settles O13: a stream of `k` bits or more is what is kept and above it `k` bits. -/
theorem popBackResult : Obligations.PopBackResult := by
  intro s a k
  refine ⟨fun hk hfit => ?_, fun hk => violates_of_answerPopped rfl (firstFailure_fail (Nat.not_le.2 hk) _ _)⟩
  obtain ⟨kept, removed, rfl, rfl⟩ : ∃ kept removed : BitStream, kept ++ removed = a ∧ removed.length = k :=
    ⟨belowTop a k, topBits a k, belowTop_append_topBits a k, length_topBits a k hk⟩
  exact ⟨kept, removed, exec_popBack (fits_mono (by simp) hfit) (fits_mono (by simp) hfit), rfl, rfl⟩

/-- Settles O14: a stream of `k` bits or more is `k` bits and above them what is kept. -/
theorem popFrontResult : Obligations.PopFrontResult := by
  intro s a k
  refine ⟨fun hk hfit => ?_, fun hk => violates_of_answerPopped rfl (firstFailure_fail (Nat.not_le.2 hk) _ _)⟩
  obtain ⟨kept, removed, rfl, rfl⟩ : ∃ kept removed : BitStream, removed ++ kept = a ∧ removed.length = k :=
    ⟨a.drop k, a.take k, List.take_append_drop k a, List.length_take_of_le hk⟩
  exact ⟨kept, removed, exec_popFront (fits_mono (by simp) hfit) (fits_mono (by simp) hfit), rfl, rfl⟩

/-! ### Peeks, slices and conversions -/

/-- Settles O15: the value of the `k` lowest positions, behind the checks of a peek. -/
theorem frontResult : Obligations.FrontResult := by
  intro s a k
  refine ⟨fun hpos hk hlen => ?_, fun hk => violates_of_answer rfl (peekChecks_width a hk),
    fun hpos hk hlen => violates_of_answer rfl (peekChecks_length hpos hk hlen)⟩
  have htake : (a.take k).length = k := List.length_take_of_le hlen
  refine ⟨val (a.take k), answer_of_checks (peekChecks_hold hpos hk hlen) _ s, ?_, fun i hi => ?_⟩
  · exact (val_lt _).trans_eq (by rw [htake])
  · rw [← getElem?_eq_testBit_val (by rwa [htake]), List.getElem?_take_of_lt hi]

/-- Settles O16: the value of the `k` highest positions, behind the checks of a peek. -/
theorem backResult : Obligations.BackResult := by
  intro s a k
  refine ⟨fun hpos hk hlen => ?_, fun hk => violates_of_answer rfl (peekChecks_width a hk),
    fun hpos hk hlen => violates_of_answer rfl (peekChecks_length hpos hk hlen)⟩
  exact ⟨val (topBits a k), answer_of_checks (peekChecks_hold hpos hk hlen) _ s, val_topBits_spec hlen⟩

/-- Settles O18: the window's positions, behind the range check. -/
theorem sliceResult : Obligations.SliceResult := by
  intro s a first last
  refine ⟨fun h hlast hfit => ?_, fun h => violates_of_answerStream rfl (sliceChecks_range h)⟩
  have hlen := length_window a first last hlast
  exact ⟨window a first last, answerStream_of_fits (sliceChecks_hold h hlast) (by rwa [hlen]), hlen,
    fun i hi => getElem?_window hi⟩

/-- Settles O19: `intOf` reads the `min(|s|, 64)` positions nearest the back. -/
theorem toIntResult : Obligations.ToIntResult := fun s a =>
  ⟨intOf a, answer_of_checks rfl _ s, val_topBits_spec (min_le_left _ _)⟩

/-- Settles O20: a stream with the window's positions is the window. -/
theorem toIntWindowResult : Obligations.ToIntWindowResult := by
  intro s a w first last
  refine ⟨fun h hlast hlen hpos => ?_, fun h => violates_of_answer rfl (sliceChecks_range h)⟩
  obtain rfl := eq_window hlast hlen hpos
  exact ⟨intOf (window a first last), answer_of_checks (sliceChecks_hold h hlast) _ s, answer_of_checks rfl _ s⟩

/-- Settles O21: the string of a stream, whose positions and both inverses are lemmas of their own. -/
theorem toStringResult : Obligations.ToStringResult := by
  refine ⟨fun s a => ?_, fun s str hstr => ?_⟩
  · exact ⟨stringOfBits a, answer_of_checks rfl _ s, length_stringOfBits a, fun j hj => getElem?_stringOfBits hj,
      bitsOfString_stringOfBits a⟩
  · show answer [] (.string (stringOfBits (bitsOfString str))) s = _
    rw [stringOfBits_bitsOfString hstr, answer_of_checks rfl]

/-- Settles O22: the length, behind no check. -/
theorem sizeResult : Obligations.SizeResult := fun s _ => answer_of_checks rfl _ s

/-! ### Laws across operations -/

/-- Settles O23: the laws of values by `intOf_bitsOf` and `intOf_append`, those of strings and pops by the operations
being inverse to each other. -/
theorem bitFifoArithmeticLaws : Obligations.BitFifoArithmeticLaws := by
  refine ⟨fun v k hk => intOf_bitsOf hk _, fun str hstr => stringOfBits_bitsOfString hstr, ?_,
    fun a b h => intOf_append h⟩
  intro s a v k hk hv hfit
  have hlen := length_bitsOf k v.toNat
  have hpush : s.fits (a.length + (bitsOf k v.toNat).length) = true := by rwa [hlen]
  have ha : s.fits a.length = true := fits_mono (by simp) hfit
  have hb : s.fits (bitsOf k v.toNat).length = true := fits_mono (by simp [hlen]) hfit
  have hback := exec_popBack ha hb
  have hfront := exec_popFront ha hb
  rw [hlen] at hback hfront
  exact ⟨⟨_, exec_pushBack (pushWidthOk_int hk v) hpush, _, hback, val_bitsOf_of_lt hv⟩,
    ⟨_, exec_pushFront (pushWidthOk_int hk v) hpush, _, hfront, val_bitsOf_of_lt hv⟩⟩

/-- Settles O24: with every other check holding, the bound of `FIFO_DEPTH` refuses the call. -/
theorem longResultIsCapacityOverflow : Obligations.LongResultIsCapacityOverflow := by
  intro s d hd
  refine ⟨fun v k hk hlong => ?_, fun a n hn hlong => ?_, fun str hstr hlong => ?_,
    fun a first last h hlast hlong => ?_, fun y n hn hlong => ?_⟩
  · exact violates_capacityOverflow rfl (firstFailure_pass hk _ _)
      (fits_of_lt_depth hd (by rwa [length_bitsOf]))
  · exact violates_capacityOverflow rfl (firstFailure_pass hn _ _)
      (fits_of_lt_depth hd (by rwa [length_bitsOfBytes hn]))
  · exact violates_capacityOverflow rfl (badDigit_checks_hold hstr)
      (fits_of_lt_depth hd (by rwa [length_bitsOfString]))
  · exact violates_capacityOverflow rfl (sliceChecks_hold h hlast)
      (fits_of_lt_depth hd (by rwa [length_window _ _ _ hlast]))
  · exact violates_capacityOverflow rfl (firstFailure_pass hn _ _)
      (fits_of_lt_depth hd (by rwa [length_unpackBits]))

end Sys2Proof.Machine
end

section
/-! Packing and unpacking bit by bit, interleaving byte by byte, and the statements of 41_packing.md. -/

namespace Sys2Proof.Machine

/-! ### Bits of packed and of unpacked streams -/

/-- Bit `j` of byte `i` of a packing is position `8 i + j`, and 0 beyond the end (R170, decision D9). -/
theorem getLsbD_packBits {a : BitStream} {i j : Nat} (hi : i < (packBits a).length) (hj : j < 8) :
    ((packBits a).getD i 0).getLsbD j = a.getD (8 * i + j) false := by
  have hbyte : (packBits a).getD i 0 = byteOf (a.drop (8 * i)) := by
    rw [length_packBits] at hi
    simp [packBits, hi]
  rw [hbyte, getLsbD_byteOf _ hj]
  simp

theorem getElem?_unpackBits {n t : Nat} (h : t < n) (y : List Byte) : (unpackBits y n)[t]? = some (bitAt y t) := by
  simp [unpackBits, h]

theorem getD_unpackBits (y : List Byte) (n t : Nat) :
    (unpackBits y n).getD t false = (decide (t < n) && bitAt y t) := by
  rw [List.getD_eq_getElem?_getD]
  by_cases h : t < n
  · rw [getElem?_unpackBits h, decide_eq_true h]; rfl
  · rw [List.getElem?_eq_none (by rw [length_unpackBits]; omega), decide_eq_false h]; rfl

/-- Bit `j` of byte `i` is bit `8 i + j` in transmission order (20_memory.md R54). -/
theorem bitAt_byte (y : List Byte) (i : Nat) {j : Nat} (h : j < 8) : bitAt y (8 * i + j) = (y.getD i 0).getLsbD j := by
  have hdiv : (8 * i + j) / 8 = i := by omega
  have hmod : (8 * i + j) % 8 = j := by omega
  rw [bitAt, hdiv, hmod]

/-! ### Bytes of an interleaving -/

theorem interleaveBytes_cons (x y : Byte) (a b : List Byte) :
    interleaveBytes (x :: a) (y :: b) = x :: y :: interleaveBytes a b := rfl

/-- The first operand stands at the even positions and the second at the odd ones (R174). -/
theorem getElem?_interleaveBytes {a b : List Byte} (h : a.length = b.length) {i : Nat} (hi : i < a.length) :
    (interleaveBytes a b)[2 * i]? = a[i]? ∧ (interleaveBytes a b)[2 * i + 1]? = b[i]? := by
  induction a generalizing b i with
  | nil => cases hi
  | cons x a ih =>
    cases b with
    | nil => cases h
    | cons y b =>
      rw [interleaveBytes_cons]
      cases i with
      | zero => exact ⟨rfl, rfl⟩
      | succ i => exact ih (Nat.succ.inj h) (Nat.lt_of_succ_lt_succ hi)

theorem oddBytes_cons_cons (x y : Byte) (p : List Byte) : oddBytes (x :: y :: p) = y :: oddBytes p := by
  cases p <;> rfl

/-- The odd bytes of an interleaving are its second operand (R175), as the even ones are its first. -/
theorem oddBytes_interleaveBytes {a b : List Byte} (h : a.length = b.length) : oddBytes (interleaveBytes a b) = b := by
  induction a generalizing b with
  | nil => rw [List.eq_nil_of_length_eq_zero h.symm]; rfl
  | cons x a ih =>
    cases b with
    | nil => cases h
    | cons y b => rw [interleaveBytes_cons, oddBytes_cons_cons, ih (Nat.succ.inj h)]

/-! ### The operations -/

/-- Settles O25: the result is `packBits a`, behind no check. -/
theorem packResult : Obligations.PackResult := fun s a =>
  ⟨packBits a, answer_of_checks rfl _ s, length_packBits a, fun _ _ => getLsbD_packBits⟩

/-- Settles O26: the result is the first `n` bits in transmission order, behind the check of the bytes' number. -/
theorem unpackResult : Obligations.UnpackResult := by
  intro s y n
  refine ⟨fun hn hfit => ?_, fun hn => violates_of_answerStream rfl (firstFailure_fail (Nat.not_le.2 hn) _ _)⟩
  have hlen := length_unpackBits y n
  exact ⟨unpackBits y n, answerStream_of_fits (firstFailure_pass hn _ _) (by rwa [hlen]), hlen,
    fun t ht => getElem?_unpackBits ht y⟩

/-- Settles O28: the result is `interleaveBytes a b`, behind the check of the lengths. -/
theorem interleaveResult : Obligations.InterleaveResult := by
  intro s a b
  refine ⟨fun h => ?_, fun h => violates_of_answer rfl (firstFailure_fail h _ _)⟩
  exact ⟨interleaveBytes a b, answer_of_checks (firstFailure_pass h _ _) _ s, length_interleaveBytes a b h,
    fun _ hi => getElem?_interleaveBytes h hi⟩

/-! ### Round trips -/

/-- Settles O27: the second round trip reads each bit of the packing back out of the unpacked stream, which ends at
`n`. -/
theorem packUnpackRoundTrips : Obligations.PackUnpackRoundTrips := by
  refine ⟨unpackBits_packBits, fun y n hn => ?_⟩
  have hlen : (packBits (unpackBits y n)).length = y.length := by
    rw [length_packBits, length_unpackBits]; exact hn
  refine ⟨hlen, fun i j hi hj => ?_⟩
  rw [getLsbD_packBits (by rwa [hlen]) hj, getD_unpackBits, bitAt_byte y i hj]

/-- Settles O29: the even and the odd bytes of the payload are the two packings, each of which unpacks to its stream. -/
theorem interleavedPayloadSeparates : Obligations.InterleavedPayloadSeparates := by
  intro tms tdi h
  have hpacked : (packBits tms).length = (packBits tdi).length := by rw [length_packBits, length_packBits, h]
  constructor
  · rw [evenBytes_interleaveBytes _ _ hpacked, unpackBits_packBits]
  · rw [oddBytes_interleaveBytes hpacked, h, unpackBits_packBits]

end Sys2Proof.Machine
end

section
/-! The TAP state machine: what `tap_next` answers, how many ones each state is from Test-Logic-Reset, and the
statements of 42_tap_fsm.md. -/

namespace Sys2Proof.Machine

/-! ### The answer of `tap_next` -/

/-- `tap_next` has no precondition: it answers the entry of the table and changes nothing but its response (R191). -/
theorem exec_tapNext (t : TapState) (tms : Bool) (s : State) :
    exec (.tapNext t tms) s = .next (answered (.tap (nextTap t tms)) s) :=
  answer_of_checks rfl _ s

/-- Settles O30: `tap_next` answers `nextTap`, and `nextTap` is the table, entry by entry. -/
theorem tapNextFollowsTable : Obligations.TapNextFollowsTable := by
  refine fun s => ⟨fun row hrow => ?_, fun t => ⟨_, _, exec_tapNext t false s, exec_tapNext t true s⟩⟩
  have hentries : nextTap row.1 false = row.2.1 ∧ nextTap row.1 true = row.2.2 := by revert row; decide
  obtain ⟨hzero, hone⟩ := hentries
  exact ⟨by rw [exec_tapNext, hzero], by rw [exec_tapNext, hone]⟩

/-! ### The distance to Test-Logic-Reset -/

/-- The least number of ones that leads to Test-Logic-Reset, the list of R193; from INVALID no number does (R192). -/
def onesToReset : TapState → ℕ∞
  | .tlr => 0
  | .sis => 1
  | .sds => 2
  | .rti | .udr | .uir => 3
  | .e1dr | .e2dr | .e1ir | .e2ir => 4
  | .cdr | .shdr | .pdr | .cir | .shir | .pir => 5
  | .inv => ⊤

theorem onesToReset_eq_zero_iff (s : TapState) : onesToReset s = 0 ↔ s = .tlr := by
  cases s <;> decide

/-- Every one is a step nearer. -/
theorem onesToReset_next_true (s : TapState) : onesToReset (nextTap s true) = onesToReset s - 1 := by
  cases s <;> rfl

/-- The states from which four ones are too few: the six farthest, and INVALID. -/
theorem four_lt_onesToReset_iff (s : TapState) :
    4 < onesToReset s ↔ s = .inv ∨ s ∈ [TapState.cdr, .shdr, .pdr, .cir, .shir, .pir] := by
  cases s <;> decide

/-- `onesToReset` counts what its name says: one state nearer with each one, Test-Logic-Reset alone at zero. -/
theorem runTap_ones_eq_tlr_iff (s : TapState) (n : Nat) :
    runTap s (List.replicate n true) = .tlr ↔ onesToReset s ≤ n := by
  induction n generalizing s with
  | zero => exact (onesToReset_eq_zero_iff s).symm.trans (by simp)
  | succ n ih =>
    have hstep : runTap s (List.replicate (n + 1) true) = runTap (nextTap s true) (List.replicate n true) := rfl
    rw [hstep, ih, onesToReset_next_true, tsub_le_iff_right, Nat.cast_succ]

/-- Fewer than five ones are too few exactly where four are. -/
theorem fewer_than_five_ones_iff (s : TapState) :
    (∀ n, n < 5 → runTap s (List.replicate n true) ≠ .tlr) ↔ 4 < onesToReset s := by
  simp only [ne_eq, runTap_ones_eq_tlr_iff, not_le]
  refine ⟨fun hfar => hfar 4 (by decide), fun hfar n hn => lt_of_le_of_lt ?_ hfar⟩
  exact Nat.cast_le.2 (Nat.le_of_lt_succ hn)

/-! ### Successors and holding states -/

/-- TMS makes no difference to INVALID (R192), and it does to each of the sixteen states (R194). -/
theorem nextTap_false_eq_true_iff (s : TapState) : nextTap s false = nextTap s true ↔ s = .inv := by
  cases s <;> decide

/-- The states that hold under TMS 0 (R195), and INVALID. -/
theorem nextTap_false_eq_self_iff (s : TapState) :
    nextTap s false = s ↔ s = .inv ∨ s ∈ [TapState.rti, .shdr, .pdr, .shir, .pir] := by
  cases s <;> decide

/-- The state that holds under TMS 1 (R195), and INVALID. -/
theorem nextTap_true_eq_self_iff (s : TapState) : nextTap s true = s ↔ s = .inv ∨ s = .tlr := by
  cases s <;> decide

/-- Settles O31: the law of five ones from the distance to Test-Logic-Reset, the others from the rows of the table;
away from INVALID each list loses its alternative. -/
theorem tapTableLaws : Obligations.TapTableLaws := by
  refine ⟨fun s h => runTap_resetOnes h, fun s h => ?_, fun s h => ?_, fun s h => ⟨?_, ?_⟩⟩
  · rw [fewer_than_five_ones_iff, four_lt_onesToReset_iff, or_iff_right h]
  · rwa [ne_eq, nextTap_false_eq_true_iff]
  · rw [nextTap_false_eq_self_iff, or_iff_right h]
  · rw [nextTap_true_eq_self_iff, or_iff_right h]

end Sys2Proof.Machine
end

section
/-! What a frame does in the terms of the statements: the TMS and TDI levels of a frame that owes no reply, the scan
of a read frame, the pulses of an R-frame, and what each leaves where a transfer of it fails. -/

namespace Sys2Proof.Machine

open Sys2Proof.Config

/-! ### The TDI levels of a frame -/

/-- The TDI levels of a J-frame (R100), beside `frameTms`. -/
def frameTdi (len : Nat) (flags : Byte) (payload : List Byte) : BitStream := (List.range len).map (tdiPin flags payload)

/-- A frame without a TDI payload holds TDI at one level (R100). -/
theorem frameTdi_static (len : Nat) {flags : Byte} (payload : List Byte) (h : hasFlag flags flagPutTdi = false) :
    frameTdi len flags payload = List.replicate len (hasFlag flags flagTdiVal) := by
  have hpin : tdiPin flags payload = fun _ => hasFlag flags flagTdiVal := by
    funext t; simp [tdiPin, h]
  simp [frameTdi, hpin]

theorem frameTdi_flagsTdi (bits : BitStream) : frameTdi bits.length flagsTdi (packBits bits) = bits :=
  unpackBits_packBits bits

theorem frameTdi_flagsTmsTdi {a b : BitStream} (h : a.length = b.length) :
    frameTdi a.length flagsTmsTdi (interleaveBytes (packBits a) (packBits b)) = b := by
  have hpart : tdiPart flagsTmsTdi (interleaveBytes (packBits a) (packBits b)) = packBits b :=
    oddBytes_interleaveBytes (by simp [length_packBits, h])
  calc frameTdi a.length flagsTmsTdi (interleaveBytes (packBits a) (packBits b))
      = unpackBits (tdiPart flagsTmsTdi (interleaveBytes (packBits a) (packBits b))) a.length := rfl
    _ = b := by rw [hpart, h, unpackBits_packBits]

/-- A frame that captures nothing drives its TMS and its TDI levels in lock-step (R100). -/
theorem frameCycles_silent (len : Nat) {flags : Byte} (payload reply : List Byte)
    (h : hasFlag flags flagGetTdo = false) :
    frameCycles len flags payload reply = drivenCycles (frameTms len flags payload) (frameTdi len flags payload) := by
  simp [frameCycles, drivenCycles, frameTms, frameTdi, tdoPin, h]

theorem drivenCycles_append {tms tdi : BitStream} (h : tms.length = tdi.length) (tms' tdi' : BitStream) :
    drivenCycles (tms ++ tms') (tdi ++ tdi') = drivenCycles tms tdi ++ drivenCycles tms' tdi' :=
  List.zipWith_append h

/-! ### Writes that are delivered and writes that fail -/

/-- Using up answers twice uses up both numbers of them. -/
theorem used_used (w r b k w' r' b' k' : Nat) (s : State) :
    used w' r' b' k' (used w r b k s) = used (w + w') (r + r') (b + b') (k + k') s := by
  simp [used, Nat.add_assoc]

theorem emitFrame_delivered {s : State} (hp : s.params.portPresent = true) (hw : s.writeAnswer 0 = .ok) (f : Frame) :
    emitFrame f s = (.noError, deviceFrame f (recordWrite (.write (frameBytes s.params f)) s)) := by
  simp only [emitFrame, hp, hw, if_true]

theorem emitFrame_failed {s : State} {why : WriteFailure} {d : Disturbance} (hp : s.params.portPresent = true)
    (hw : s.writeAnswer 0 = .failed why d) (f : Frame) :
    emitFrame f s =
      (writeCause why, undelivered (frameBytes s.params f) (brokenTap f (ieeeState d.tap) s) why d s) := by
  simp only [emitFrame, hp, hw, if_true]
  rfl

theorem frameBytes_count32 (s : State) {n : Nat} (hn : n < 2 ^ 32) (flags : Byte) (payload : List Byte) :
    frameBytes s.params (.j (count32 n) flags payload) = jframe s n flags payload := by
  rw [frameBytes_j, count32_toNat hn]

/-- The state after a delivered frame that owes no reply: it was written, the pins carried its levels, and the target
made a table step for each. -/
def sent (bytes : List Byte) (tms tdi : BitStream) (s : State) : State :=
  { used 1 0 0 0 s with
    port := s.port ++ [.write bytes]
    physTap := runTap s.physTap tms
    pins := s.pins ++ drivenCycles tms tdi }

theorem sent_writeAnswer (bytes : List Byte) (tms tdi : BitStream) (s : State) (n : Nat) :
    (sent bytes tms tdi s).writeAnswer n = s.writeAnswer (1 + n) :=
  used_writeAnswer 1 0 0 0 n s

/-- Two frames delivered one after another. -/
theorem sent_sent {tms tdi : BitStream} (h : tms.length = tdi.length) (first second : List Byte)
    (tms' tdi' : BitStream) (s : State) :
    sent second tms' tdi' (sent first tms tdi s) =
      { used 2 0 0 0 s with
        port := s.port ++ [.write first, .write second]
        physTap := runTap s.physTap (tms ++ tms')
        pins := s.pins ++ drivenCycles (tms ++ tms') (tdi ++ tdi') } := by
  simp [sent, used, runTap_append, drivenCycles_append h]

theorem emitFrame_sent {s : State} {n : Nat} {flags : Byte} {payload : List Byte} {tms tdi : BitStream}
    (hp : s.params.portPresent = true) (hw : s.writeAnswer 0 = .ok) (hn : n < 2 ^ 32)
    (hget : hasFlag flags flagGetTdo = false) (htms : frameTms n flags payload = tms)
    (htdi : frameTdi n flags payload = tdi) :
    emitFrame (.j (count32 n) flags payload) s = (.noError, sent (jframe s n flags payload) tms tdi s) := by
  rw [emitFrame_delivered hp hw, frameBytes_count32 s hn, deviceFrame_silent payload _ hget, count32_toNat hn,
    frameCycles_silent n payload [] hget, htms, htdi]
  rfl

theorem emitFrame_flagsTms {s : State} {bits : BitStream} (hp : s.params.portPresent = true)
    (hw : s.writeAnswer 0 = .ok) (hn : bits.length < 2 ^ 32) :
    emitFrame (.j (count32 bits.length) flagsTms (packBits bits)) s =
      (.noError, sent (jframe s bits.length 0x02 (packBits bits)) bits (List.replicate bits.length false) s) :=
  emitFrame_sent hp hw hn rfl (frameTms_flagsTms bits) (frameTdi_static _ _ rfl)

theorem emitFrame_flagsTdi {s : State} {bits : BitStream} {n : Nat} (hlen : bits.length = n)
    (hp : s.params.portPresent = true) (hw : s.writeAnswer 0 = .ok) (hn : n < 2 ^ 32) :
    emitFrame (.j (count32 n) flagsTdi (packBits bits)) s =
      (.noError, sent (jframe s n 0x08 (packBits bits)) (List.replicate n false) bits s) := by
  subst hlen
  exact emitFrame_sent hp hw hn rfl (frameTms_static _ _ rfl) (frameTdi_flagsTdi bits)

theorem emitFrame_flagsTmsTdi {s : State} {tms tdi : BitStream} {n : Nat} (htms : tms.length = n)
    (htdi : tdi.length = n) (hp : s.params.portPresent = true) (hw : s.writeAnswer 0 = .ok) (hn : n < 2 ^ 32) :
    emitFrame (.j (count32 n) flagsTmsTdi (interleaveBytes (packBits tms) (packBits tdi))) s =
      (.noError, sent (jframe s n 0x0A (interleaveBytes (packBits tms) (packBits tdi))) tms tdi s) := by
  subst htms
  exact emitFrame_sent hp hw hn rfl (frameTms_flagsTmsTdi _ _ htdi.symm) (frameTdi_flagsTmsTdi htdi.symm)

/-! ### Scans -/

/-- The flags byte of a read frame that holds TMS at a level (R99). -/
def scanFlags : Bool → Byte
  | false => flagsRead
  | true => flagsExit

theorem frameTms_scanFlags (n : Nat) (level : Bool) : frameTms n (scanFlags level) [] = List.replicate n level := by
  cases level
  · exact frameTms_static n [] rfl
  · exact frameTms_static n [] rfl

theorem frameCycles_scanFlags (n : Nat) (level : Bool) (y : List Byte) :
    frameCycles n (scanFlags level) [] y = readCycles level (unpackBits y n) := by
  cases level
  · exact frameCycles_read n y rfl rfl rfl rfl
  · exact frameCycles_read n y rfl rfl rfl rfl

/-- The state after a delivered read frame of `n` cycles with TMS at a level: the reply sits in the port. -/
def asked (n : Nat) (level : Bool) (s : State) : State :=
  { used 1 0 (ceil8 n) 0 s with
    port := s.port ++ [.write (jframe s n (scanFlags level) [])]
    physTap := runTap s.physTap (List.replicate n level)
    pins := s.pins ++ readCycles level (unpackBits (nextReply (ceil8 n) s) n)
    inbound := s.inbound ++ nextReply (ceil8 n) s }

theorem emitFrame_asked {s : State} {n : Nat} (hp : s.params.portPresent = true) (hw : s.writeAnswer 0 = .ok)
    (hn : n < 2 ^ 32) (level : Bool) :
    emitFrame (.j (count32 n) (scanFlags level) []) s = (.noError, asked n level s) := by
  have hk : ceil8 n = if (scanFlags level).getLsbD 0 then ceil8 (count32 n).toNat else 0 := by
    rw [count32_toNat hn]; cases level <;> rfl
  rw [emitFrame_delivered hp hw, frameBytes_count32 s hn, deviceFrame_j [] _ hk, count32_toNat hn,
    frameTms_scanFlags, frameCycles_scanFlags]
  rfl

/-- The state after a read frame of `n` cycles and the read transfer of its reply, with what is pending then. -/
def scanned (n : Nat) (level : Bool) (reading : Transaction) (pending : List Byte) (s : State) : State :=
  { used 1 1 (ceil8 n) 0 s with
    port := s.port ++ [.write (jframe s n (scanFlags level) []), reading]
    physTap := runTap s.physTap (List.replicate n level)
    pins := s.pins ++ readCycles level (unpackBits (nextReply (ceil8 n) s) n)
    inbound := pending }

theorem recordRead_asked (n : Nat) (level : Bool) (reading : Transaction) (pending : List Byte) (s : State) :
    recordRead reading pending (asked n level s) = scanned n level reading pending s := by
  simp [recordRead, asked, scanned, used]

theorem scanned_writeAnswer (n : Nat) (level : Bool) (reading : Transaction) (pending : List Byte) (s : State)
    (m : Nat) : (scanned n level reading pending s).writeAnswer m = s.writeAnswer (1 + m) :=
  used_writeAnswer 1 1 (ceil8 n) 0 m s

theorem scanned_readAnswer (n : Nat) (level : Bool) (reading : Transaction) (pending : List Byte) (s : State)
    (m : Nat) : (scanned n level reading pending s).readAnswer m = s.readAnswer (1 + m) :=
  used_readAnswer 1 1 (ceil8 n) 0 m s

theorem scanned_replyByte (n : Nat) (level : Bool) (reading : Transaction) (pending : List Byte) (s : State)
    (m : Nat) : (scanned n level reading pending s).replyByte m = s.replyByte (ceil8 n + m) :=
  used_replyByte 1 1 (ceil8 n) 0 m s

/-- A read frame and the exit frame, each with the read of its reply, one after another. -/
theorem scanned_exit (n : Nat) (tap : TapState) (reading reading' : Transaction) (pending pending' : List Byte)
    (s : State) :
    scanned 1 true reading' pending' { scanned n false reading pending s with tapState := tap } =
      { used 2 2 (ceil8 n + 1) 0 s with
        tapState := tap
        port := s.port ++ [.write (jframe s n 0x01 []), reading, .write (jframe s 1 0x05 []), reading']
        physTap := nextTap (runTap s.physTap (List.replicate n false)) true
        pins := s.pins ++ readCycles false (unpackBits (nextReply (ceil8 n) s) n) ++
          readCycles true [(s.replyByte (ceil8 n)).getLsbD 0]
        inbound := pending' } := by
  calc scanned 1 true reading' pending' { scanned n false reading pending s with tapState := tap }
      = { used 1 1 1 0 (used 1 1 (ceil8 n) 0 s) with
          tapState := tap
          port := s.port ++ [.write (jframe s n 0x01 []), reading] ++ [.write (jframe s 1 0x05 []), reading']
          physTap := nextTap (runTap s.physTap (List.replicate n false)) true
          pins := s.pins ++ readCycles false (unpackBits (nextReply (ceil8 n) s) n) ++
            readCycles true [((scanned n false reading pending s).replyByte 0).getLsbD 0]
          inbound := pending' } := rfl
    _ = _ := by rw [used_used, scanned_replyByte, List.append_assoc s.port]; rfl

/-- A read that is answered `ok` takes its bytes off the front of those pending. -/
theorem portRead_taken {n : Nat} {s : State} (hp : s.params.portPresent = true) (hr : s.readAnswer 0 = .ok)
    (hlen : n ≤ s.inbound.length) :
    portRead n s = ⟨.noError, s.inbound.take n, recordRead (.read n (s.inbound.take n)) (s.inbound.drop n) s⟩ := by
  simp only [portRead, hp, if_true, (readFailure_none n s).2 ⟨hr, hlen⟩]

theorem portRead_failed {n : Nat} {s : State} {why : ReadFailure} {pending : List Byte}
    (hp : s.params.portPresent = true) (hr : s.readAnswer 0 = .failed why pending) :
    portRead n s = ⟨readCause why, [], recordRead (.readFailed n why) pending s⟩ := by
  simp only [portRead, hp, if_true, readFailure_failed n s why pending hr]

/-- A scan whose transfers are answered `ok` captures what the read takes, whatever was pending before. -/
theorem scanTdo_ok {s : State} {n : Nat} {level : Bool} {y : List Byte} (hp : s.params.portPresent = true)
    (hw : s.writeAnswer 0 = .ok) (hr : s.readAnswer 0 = .ok) (hn : n < 2 ^ 32)
    (hy : y = s.inbound ++ nextReply (ceil8 n) s) :
    scanTdo n (scanFlags level) s =
      ⟨.noError, unpackBits (y.take (ceil8 n)) n,
        scanned n level (.read (ceil8 n) (y.take (ceil8 n))) (y.drop (ceil8 n)) s⟩ := by
  subst hy
  have hlen : ceil8 n ≤ (asked n level s).inbound.length := by
    rw [asked, List.length_append, length_nextReply]; omega
  have hread := portRead_taken (s := asked n level s) hp hr hlen
  rw [recordRead_asked] at hread
  simp only [scanTdo, emitFrame_asked hp hw hn level, hread]
  rfl

/-- On a clean port the read takes the reply and leaves nothing (R322). -/
theorem scanTdo_clean {s : State} {n : Nat} {level : Bool} (hp : s.params.portPresent = true) (hs : s.cleanPort)
    (hw : s.writeAnswer 0 = .ok) (hr : s.readAnswer 0 = .ok) (hn : n < 2 ^ 32) :
    scanTdo n (scanFlags level) s =
      ⟨.noError, unpackBits (nextReply (ceil8 n) s) n,
        scanned n level (.read (ceil8 n) (nextReply (ceil8 n) s)) s.inbound s⟩ := by
  have hlen : (nextReply (ceil8 n) s).length = ceil8 n := length_nextReply _ s
  have hscan := scanTdo_ok (level := level) hp hw hr hn rfl
  rwa [hs, List.nil_append, List.take_of_length_le hlen.le, List.drop_eq_nil_of_le hlen.le, ← hs] at hscan

theorem scanTdo_readFailed {s : State} {n : Nat} {level : Bool} {why : ReadFailure} {pending : List Byte}
    (hp : s.params.portPresent = true) (hw : s.writeAnswer 0 = .ok) (hr : s.readAnswer 0 = .failed why pending)
    (hn : n < 2 ^ 32) :
    scanTdo n (scanFlags level) s =
      ⟨readCause why, [], scanned n level (.readFailed (ceil8 n) why) pending s⟩ := by
  have hread := portRead_failed (n := ceil8 n) (s := asked n level s) hp hr
  rw [recordRead_asked] at hread
  simp only [scanTdo, emitFrame_asked hp hw hn level, hread]
  cases why <;> rfl

theorem scanTdo_writeFailed {s : State} {n : Nat} {flags : Byte} {why : WriteFailure} {d : Disturbance}
    (hp : s.params.portPresent = true) (hw : s.writeAnswer 0 = .failed why d) (hn : n < 2 ^ 32) :
    scanTdo n flags s =
      ⟨writeCause why, [], undelivered (jframe s n flags [])
        (brokenTap (.j (count32 n) flags []) (ieeeState d.tap) s) why d s⟩ := by
  simp only [scanTdo, emitFrame_failed hp hw, frameBytes_count32 s hn]
  cases why <;> rfl

/-- With no port, a write that fails or a read that fails a scan fails. -/
theorem scanTdo_fails {s : State} (n : Nat) (flags : Byte)
    (h : s.params.portPresent = false ∨ (∃ why d, s.writeAnswer 0 = .failed why d) ∨ s.readAnswer 0 ≠ .ok) :
    (scanTdo n flags s).cause ≠ .noError := by
  rcases scanTdo_cases n flags s with ⟨c, s1, _, hc, e⟩ | ⟨s1, c, s2, y, _, _, hc, e⟩ | ⟨s1, s2, y, hf, hr, _⟩
  · rwa [e]
  · rwa [e]
  · exfalso
    rcases emitFrame_cases (.j (count32 n) flags []) s with ⟨_, e⟩ | ⟨hp, hw, e⟩ | ⟨why, d, _, _, e⟩ <;> rw [e] at hf
    · cases hf
    · obtain ⟨_, rfl⟩ := Prod.mk.inj hf
      rcases portRead_cases (ceil8 n) (deviceFrame (.j (count32 n) flags [])
        (recordWrite (.write (frameBytes s.params (.j (count32 n) flags []))) s)) with
        ⟨_, e⟩ | ⟨_, hread, _, _⟩ | ⟨why, pending, _, _, e⟩
      · rw [e] at hr; cases hr
      · rcases h with h | ⟨why, d, h⟩ | h
        · rw [hp] at h; cases h
        · rw [hw] at h; cases h
        · exact h hread
      · rw [e] at hr; exact readCause_ne why (ReadReply.mk.inj hr).1
    · exact writeCause_ne why (Prod.mk.inj hf).1

/-! ### The frames of a flush that are written -/

theorem emitAll_singleton (f : Frame) (s : State) : emitAll [f] s = emitFrame f s := by
  rcases h : emitFrame f s with ⟨c, s'⟩
  cases c <;> simp only [emitAll, h]

theorem emitAll_of_delivered {f : Frame} {s s' : State} (h : emitFrame f s = (.noError, s')) (rest : List Frame) :
    emitAll (f :: rest) s = emitAll rest s' := by
  simp only [emitAll, h]

theorem emitAll_of_failed {f : Frame} {s s' : State} {why : WriteFailure}
    (h : emitFrame f s = (writeCause why, s')) (rest : List Frame) :
    emitAll (f :: rest) s = (writeCause why, s') := by
  rw [emitAll_cons, h, if_neg (writeCause_ne why)]

/-- A flush that is no mismatch empties the buffers, writes its frames and concludes with their outcome. -/
theorem flushBuffers_writes {q t : State} {fs : List Frame} {c : Cause}
    (hm : flushCase q.tmsBuf.length q.tdiBuf.length ≠ .mismatch) (hf : flushFrames q.tmsBuf q.tdiBuf = fs)
    (h : emitAll fs { q with tmsBuf := [], tdiBuf := [] } = (c, t)) : flushBuffers q = conclude c .none t := by
  subst hf
  rcases flushBuffers_cases q with ⟨e, _⟩ | ⟨c', t', _, h', hend⟩
  · exact absurd e hm
  · cases h.symm.trans h'
    rcases hend with ⟨rfl, e⟩ | ⟨hne, e⟩
    · rw [e, conclude_noError]
    · rw [e, conclude_error _ _ _ hne]

theorem flushBuffers_mismatch {q : State} (h : flushCase q.tmsBuf.length q.tdiBuf.length = .mismatch) :
    flushBuffers q = raised .lengthMismatch .none q := by
  rcases flushBuffers_cases q with ⟨_, e⟩ | ⟨_, _, hm, _⟩
  · exact e
  · exact absurd h hm

end Sys2Proof.Machine
end

section
/-! The statements of 43_jtag_ops.md about the operations that end in a flush (R210 to R230). -/

namespace Sys2Proof.Machine

open Sys2Proof.Config

/-! ### Refusals -/

/-- An operation is refused by the first of its checks that fails: the other side of `next_guarded`. -/
theorem refused_guarded {checks : List (Bool × Check)} {k : Check} (h : firstFailure checks = some k) (r : Result)
    (s after : State) :
    Host.Outcome.next (guarded checks r s after) = (.next (violated k r s) : Host.Outcome State Fault Refusal) := by
  rw [guarded, h, ← violate_eq]

theorem violates_of_exec {i : Instr} {s : State} {k : Check} {r : Result} (h : exec i s = .next (violated k r s)) :
    violates i s k :=
  ⟨_, h, rfl⟩

theorem flushCounts_of_tooLong {t d : Nat} (h : countTooLong t d) : flushCounts t d = false := by
  rw [← Bool.not_eq_true, flushCounts_iff]; exact not_not_intro h

theorem tmsEmpty_of_nil {s : State} (h : s.tmsBuf = []) : s.tmsEmpty = true := List.isEmpty_iff.2 h

theorem tmsEmpty_of_ne_nil {s : State} (h : s.tmsBuf ≠ []) : s.tmsEmpty = false := List.isEmpty_eq_false_iff.2 h

theorem tdiEmpty_of_nil {s : State} (h : s.tdiBuf = []) : s.tdiEmpty = true := List.isEmpty_iff.2 h

theorem tdiEmpty_of_ne_nil {s : State} (h : s.tdiBuf ≠ []) : s.tdiEmpty = false := List.isEmpty_eq_false_iff.2 h

/-- Empty buffers stay as they are when they are emptied. -/
theorem emptied_eq {s : State} (htms : s.tmsBuf = []) (htdi : s.tdiBuf = []) :
    { s with tmsBuf := [], tdiBuf := [] } = s := by
  cases s; cases htms; cases htdi; rfl

/-! ### The flush -/

theorem execFlush_body {s : State} (hc : ¬ countTooLong s.tmsBuf.length s.tdiBuf.length) :
    exec .flush s = .next (flushBuffers s) :=
  next_guarded (by simpa using (flushCounts_iff _ _).2 hc) rfl

theorem execFlush_tooLong {s : State} (hc : countTooLong s.tmsBuf.length s.tdiBuf.length) :
    exec .flush s = .next (violated .lenOverflow .none s) :=
  refused_guarded (by simp [firstFailure, flushCounts_of_tooLong hc]) _ _ _

/-- A flush keeps the replica and leaves both buffers empty, whatever its writes came to. -/
theorem flushBuffers_empties {q : State} (hc : flushCounts q.tmsBuf.length q.tdiBuf.length = true) :
    (flushBuffers q).tapState = q.tapState ∧ (flushBuffers q).tmsBuf = [] ∧ (flushBuffers q).tdiBuf = [] := by
  obtain ⟨c, t, htrans, e⟩ := flushBuffers_concludes hc
  obtain ⟨hms, hdi⟩ := htrans.conclude_buffers rfl rfl .none
  rw [e, conclude_tapState]
  exact ⟨htrans.tapState, hms, hdi⟩

theorem flushFrames_tmsOnly {tms : BitStream} (h : 0 < tms.length) :
    flushFrames tms [] = [.j (count32 tms.length) flagsTms (packBits tms)] := by
  simp only [flushFrames, List.length_nil, flushCase_tmsOnly h.ne']

theorem flushFrames_tdiOnly {tdi : BitStream} (h : 0 < tdi.length) :
    flushFrames [] tdi = [.j (count32 tdi.length) flagsTdi (packBits tdi)] := by
  simp only [flushFrames, List.length_nil, flushCase_tdiOnly h.ne']

theorem flushFrames_equal {tms tdi : BitStream} (h : 0 < tms.length) (he : tms.length = tdi.length) :
    flushFrames tms tdi =
      [.j (count32 tms.length) flagsTmsTdi (interleaveBytes (packBits tms) (packBits tdi))] := by
  simp only [flushFrames, ← he, flushCase_equal h.ne']

theorem packBits_single {a : BitStream} (h : a.length = 1) : packBits a = [byteOf a] := by
  simp [packBits, h, ceil8]

/-- The frames of the split case (R214): each of the two payload bytes of the second is one packed bit. -/
theorem flushFrames_split {b : Bool} {tdi : BitStream} {m : Nat} (hm : m = tdi.length - 1) (h : 2 ≤ tdi.length) :
    flushFrames [b] tdi =
      [.j (count32 m) flagsTdi (packBits (tdi.take m)),
        .j (count32 1) flagsTmsTdi (interleaveBytes (packBits [b]) (packBits (tdi.drop m)))] := by
  subst hm
  simp only [flushFrames, List.length_singleton, flushCase_split h]
  rfl

theorem interleaveBytes_single {a b : BitStream} (ha : a.length = 1) (hb : b.length = 1) :
    interleaveBytes (packBits a) (packBits b) = (packBits a).take 1 ++ (packBits b).take 1 := by
  rw [packBits_single ha, packBits_single hb]; rfl

/-- A flush of TMS bits alone writes one frame that carries them, with TDI held low (R211). -/
theorem execFlush_tmsOnly {q : State} {bits : BitStream} (htms : q.tmsBuf = bits) (htdi : q.tdiBuf = [])
    (hpos : 0 < bits.length) (hn : bits.length < 2 ^ 32) (hp : q.params.portPresent = true)
    (hw : q.writeAnswer 0 = .ok) :
    exec .flush q = .next { used 1 0 0 0 q with
      tmsBuf := []
      cause := .noError
      result := .none
      port := q.port ++ [.write (jframe q bits.length 0x02 (packBits bits))]
      physTap := runTap q.physTap bits
      pins := q.pins ++ drivenCycles bits (List.replicate bits.length false) } := by
  subst htms
  have hlen : q.tdiBuf.length = 0 := List.length_eq_zero_iff.2 htdi
  have hwrite := emitFrame_flagsTms (s := { q with tmsBuf := [], tdiBuf := [] }) hp hw hn
  rw [execFlush_body (by omega), flushBuffers_writes (flushCase_ne_mismatch (.inl hlen))
    (htdi ▸ flushFrames_tmsOnly hpos) ((emitAll_singleton _ _).trans hwrite), conclude_noError, ← htdi]
  rfl

/-- Settles O32: the one frame, or the count check. -/
theorem flushTmsOnlyResult : Obligations.FlushTmsOnlyResult :=
  ⟨fun _ hpos hn htdi hp hw => execFlush_tmsOnly rfl htdi hpos hn hp hw,
    fun _ hn htdi => violates_of_exec (execFlush_tooLong (.inl ⟨List.length_eq_zero_iff.2 htdi, hn⟩))⟩

/-- Settles O33: the one frame carries the TDI bits, with TMS held low. -/
theorem flushTdiOnlyResult : Obligations.FlushTdiOnlyResult := by
  refine ⟨fun s htms hpos hn hp hw => ?_,
    fun s htms hn => violates_of_exec (execFlush_tooLong (.inr (.inl ⟨?_, hn⟩)))⟩
  · have hlen : s.tmsBuf.length = 0 := List.length_eq_zero_iff.2 htms
    have hwrite := emitFrame_flagsTdi (s := { s with tmsBuf := [], tdiBuf := [] }) rfl hp hw hn
    rw [execFlush_body (by omega), flushBuffers_writes (flushCase_ne_mismatch (.inr (.inl (by omega))))
      (htms ▸ flushFrames_tdiOnly hpos) ((emitAll_singleton _ _).trans hwrite), conclude_noError, ← htms]
    rfl
  · exact List.length_eq_zero_iff.2 htms

/-- Settles O34: the one frame carries both streams interleaved, bit by bit in lock-step. -/
theorem flushEqualResult : Obligations.FlushEqualResult := by
  refine ⟨fun s hpos hn he hp hw => ?_,
    fun s hn he => violates_of_exec (execFlush_tooLong (.inr (.inr (.inl ⟨he, hn⟩))))⟩
  have hwrite := emitFrame_flagsTmsTdi (s := { s with tmsBuf := [], tdiBuf := [] }) rfl he.symm hp hw hn
  rw [execFlush_body (by omega), flushBuffers_writes (flushCase_ne_mismatch (.inr (.inr he)))
    (flushFrames_equal hpos he) ((emitAll_singleton _ _).trans hwrite), conclude_noError]
  rfl

section

variable {s : State} {b : Bool} {m : Nat}

/-- A flush in the split case concludes with the outcome of its two writes. -/
theorem execFlush_split (htms : s.tmsBuf = [b]) (hlen : 2 ≤ s.tdiBuf.length) (hm : m = s.tdiBuf.length - 1)
    (hn : m < 2 ^ 32) {c : Cause} {t : State}
    (h : emitAll
      [.j (count32 m) flagsTdi (packBits (s.tdiBuf.take m)),
        .j (count32 1) flagsTmsTdi (interleaveBytes (packBits [b]) (packBits (s.tdiBuf.drop m)))]
      { s with tmsBuf := [], tdiBuf := [] } = (c, t)) :
    exec .flush s = .next (conclude c .none t) := by
  have hone : s.tmsBuf.length = 1 := by rw [htms]; rfl
  rw [execFlush_body (by omega), flushBuffers_writes (flushCase_ne_mismatch (.inr (.inl hone.le)))
    (htms ▸ flushFrames_split hm hlen) h]

/-- The state after the first of the two frames was delivered. -/
def sentFirst (m : Nat) (s : State) : State :=
  sent (jframe s m 0x08 (packBits (s.tdiBuf.take m))) (List.replicate m false) (s.tdiBuf.take m)
    { s with tmsBuf := [], tdiBuf := [] }

theorem emitFrame_splitFirst (hlen : m ≤ s.tdiBuf.length) (hn : m < 2 ^ 32) (hp : s.params.portPresent = true)
    (hw : s.writeAnswer 0 = .ok) :
    emitFrame (.j (count32 m) flagsTdi (packBits (s.tdiBuf.take m))) { s with tmsBuf := [], tdiBuf := [] } =
      (.noError, sentFirst m s) :=
  emitFrame_flagsTdi (s := { s with tmsBuf := [], tdiBuf := [] }) (List.length_take_of_le hlen) hp hw hn

theorem execFlush_split_delivered (htms : s.tmsBuf = [b]) (hlen : 2 ≤ s.tdiBuf.length) (hm : m = s.tdiBuf.length - 1)
    (hn : m < 2 ^ 32) (hp : s.params.portPresent = true) (hw : s.writeAnswer 0 = .ok) (hw1 : s.writeAnswer 1 = .ok) :
    exec .flush s = .next { used 2 0 0 0 s with
      tmsBuf := []
      tdiBuf := []
      cause := .noError
      result := .none
      port := s.port ++
        [.write (jframe s m 0x08 (packBits (s.tdiBuf.take m))),
          .write (jframe s 1 0x0A ((packBits [b]).take 1 ++ (packBits (s.tdiBuf.drop m)).take 1))]
      physTap := runTap s.physTap (List.replicate m false ++ [b])
      pins := s.pins ++ drivenCycles (List.replicate m false ++ [b]) s.tdiBuf } := by
  have hlast : (s.tdiBuf.drop m).length = 1 := by rw [List.length_drop]; omega
  have hfirst := emitFrame_splitFirst (m := m) (by omega) hn hp hw
  have hsecond := emitFrame_flagsTmsTdi (n := 1) (tms := [b]) (s := sentFirst m s) rfl hlast hp
    ((sent_writeAnswer _ _ _ _ 0).trans hw1) (by decide)
  rw [execFlush_split htms hlen hm hn ((emitAll_of_delivered hfirst _).trans ((emitAll_singleton _ _).trans hsecond)),
    conclude_noError, interleaveBytes_single rfl hlast]
  have htake : (List.replicate m false).length = (s.tdiBuf.take m).length := by
    rw [List.length_replicate, List.length_take_of_le (by omega)]
  rw [sentFirst, sent_sent htake, List.take_append_drop]
  rfl

theorem execFlush_split_secondFailed (htms : s.tmsBuf = [b]) (hlen : 2 ≤ s.tdiBuf.length) (hm : m = s.tdiBuf.length - 1)
    (hn : m < 2 ^ 32) (hp : s.params.portPresent = true) (hw : s.writeAnswer 0 = .ok) {why : WriteFailure}
    {d : Disturbance} (hw1 : s.writeAnswer 1 = .failed why d) :
    exec .flush s = .next (raised (writeCause why) .none
      (undelivered (jframe s 1 0x0A ((packBits [b]).take 1 ++ (packBits (s.tdiBuf.drop m)).take 1))
        (ieeeState d.tap) why d
        { used 1 0 0 0 s with
          port := s.port ++ [.write (jframe s m 0x08 (packBits (s.tdiBuf.take m)))]
          pins := s.pins ++ drivenCycles (List.replicate m false) (s.tdiBuf.take m) })) := by
  have hlast : (s.tdiBuf.drop m).length = 1 := by rw [List.length_drop]; omega
  have hfirst := emitFrame_splitFirst (m := m) (by omega) hn hp hw
  have hsecond := emitFrame_failed (s := sentFirst m s) hp ((sent_writeAnswer _ _ _ _ 0).trans hw1)
    (.j (count32 1) flagsTmsTdi (interleaveBytes (packBits [b]) (packBits (s.tdiBuf.drop m))))
  rw [execFlush_split htms hlen hm hn ((emitAll_of_delivered hfirst _).trans ((emitAll_singleton _ _).trans hsecond)),
    conclude_error _ _ _ (writeCause_ne why), interleaveBytes_single rfl hlast]
  rfl

theorem execFlush_split_firstFailed (htms : s.tmsBuf = [b]) (hlen : 2 ≤ s.tdiBuf.length) (hm : m = s.tdiBuf.length - 1)
    (hn : m < 2 ^ 32) (hp : s.params.portPresent = true) {why : WriteFailure} {d : Disturbance}
    (hw : s.writeAnswer 0 = .failed why d) :
    exec .flush s = .next (raised (writeCause why) .none
      (undelivered (jframe s m 0x08 (packBits (s.tdiBuf.take m))) (ieeeState d.tap) why d s)) := by
  have hfirst := emitFrame_failed (s := { s with tmsBuf := [], tdiBuf := [] }) hp hw
    (.j (count32 m) flagsTdi (packBits (s.tdiBuf.take m)))
  rw [execFlush_split htms hlen hm hn (emitAll_of_failed hfirst _), conclude_error _ _ _ (writeCause_ne why),
    frameBytes_count32 _ hn]
  rfl

end

/-- Settles O35: the second frame is written where the first was delivered. -/
theorem flushSplitResult : Obligations.FlushSplitResult := by
  refine ⟨fun s b htms hlen hn hp hw => ⟨execFlush_split_delivered htms hlen rfl hn hp hw, fun why d =>
      execFlush_split_secondFailed htms hlen rfl hn hp hw⟩,
    fun s b why d htms hlen hn hp hw => execFlush_split_firstFailed htms hlen rfl hn hp hw,
    fun s b htms hn => violates_of_exec (execFlush_tooLong (.inr (.inr (.inr ⟨by rw [htms]; rfl, by omega, hn⟩))))⟩

/-- Settles O36: the mismatch is raised in the state the flush began in. -/
theorem flushMismatchResult : Obligations.FlushMismatchResult := by
  intro s htms htdi hne
  rw [execFlush_body (by omega), flushBuffers_mismatch (flushCase_mismatch htms (by omega) hne)]

/-- Settles O37: no frame is written, so the port is not asked for. -/
theorem flushEmptyResult : Obligations.FlushEmptyResult := by
  intro s htms htdi
  have hcase : flushCase s.tmsBuf.length s.tdiBuf.length ≠ .mismatch := by rw [htms, htdi]; decide
  have hframes : flushFrames s.tmsBuf s.tdiBuf = [] := by rw [htms, htdi]; rfl
  rw [execFlush_body (by rw [htms, htdi]; decide), flushBuffers_writes hcase hframes rfl, conclude_noError,
    emptied_eq htms htdi]

/-- Bits queued on empty buffers are flushed as one frame, and the replica stands where they brought it. -/
theorem execFlush_queued {s : State} {bits : BitStream} (tap : TapState) (htms : s.tmsBuf = []) (htdi : s.tdiBuf = [])
    (hpos : 0 < bits.length) (hn : bits.length < 2 ^ 32) (hp : s.params.portPresent = true)
    (hw : s.writeAnswer 0 = .ok) :
    exec .flush { s with tmsBuf := s.tmsBuf ++ bits, tapState := tap } = .next { used 1 0 0 0 s with
      tapState := tap
      cause := .noError
      result := .none
      port := s.port ++ [.write (jframe s bits.length 0x02 (packBits bits))]
      physTap := runTap s.physTap bits
      pins := s.pins ++ drivenCycles bits (List.replicate bits.length false) } := by
  have hflush := execFlush_tmsOnly (q := { s with tmsBuf := s.tmsBuf ++ bits, tapState := tap }) (bits := bits)
    (by rw [htms, List.nil_append]) htdi hpos hn hp hw
  rw [hflush, ← htms]
  rfl

/-! ### `reset_tap` -/

theorem execResetTap_body {s : State} (hfits : s.fits (s.tmsBuf.length + 5) = true)
    (hc : ¬ countTooLong (s.tmsBuf.length + 5) s.tdiBuf.length) :
    exec .resetTap s =
      .next (flushBuffers { s with tmsBuf := s.tmsBuf ++ List.replicate 5 true, tapState := .tlr }) := by
  refine next_guarded ?_ rfl
  simp only [List.forall_mem_cons]
  exact ⟨hfits, (flushCounts_iff _ _).2 hc, by simp⟩

/-- What `reset_tap` queues is flushed (R220, decision D27). -/
theorem execResetTap_eq_flush {s : State} (hfits : s.fits (s.tmsBuf.length + 5) = true)
    (hc : ¬ countTooLong (s.tmsBuf.length + 5) s.tdiBuf.length) :
    exec .resetTap s = exec .flush { s with tmsBuf := s.tmsBuf ++ List.replicate 5 true, tapState := .tlr } := by
  rw [execResetTap_body hfits hc, execFlush_body]
  simpa using hc

/-- Settles O38: the flush of the five queued ones, or a refusal. -/
theorem resetTapResult : Obligations.ResetTapResult := by
  refine ⟨fun s htms htdi hfits hp hw => ?_, fun s hfits hc => ⟨execResetTap_eq_flush hfits hc, ?_⟩,
    fun s hfits hpos hne => ?_, fun s hfits => refused_guarded ?_ _ _ _, fun s hfits hc => refused_guarded ?_ _ _ _⟩
  · rw [execResetTap_eq_flush (by rwa [htms]) (by rw [htms, htdi]; decide),
      execFlush_queued .tlr htms htdi (by decide) (by decide) hp hw]
    rfl
  · refine ⟨_, execResetTap_body hfits hc, flushBuffers_empties ?_⟩
    rw [flushCounts_iff]; simpa using hc
  · have hcase : flushCase (s.tmsBuf ++ List.replicate 5 true).length s.tdiBuf.length = .mismatch :=
      flushCase_mismatch (by simp) (by omega) (by simpa using hne.symm)
    rw [execResetTap_body hfits (by omega), flushBuffers_mismatch hcase]
    rfl
  · simp [firstFailure, resetOnes, hfits]
  · simp [firstFailure, resetOnes, hfits, flushCounts_of_tooLong hc]

/-! ### `go_thru_states` -/

/-- A walk that passes the validation pass of R225 is in order: the other way to `walkBits_of_walkOk`. -/
theorem walkOk_of_walkBits {c : TapState} {targets : List TapState} {bits : BitStream}
    (hieee : targets.all isIeee = true) (h : walkBits c targets = some bits) : walkOk c targets = true := by
  induction targets generalizing c bits with
  | nil => rfl
  | cons t rest ih =>
    rw [List.all_cons, Bool.and_eq_true, isIeee_iff] at hieee
    obtain ⟨ht, hrest⟩ := hieee
    simp only [walkBits] at h
    split at h
    next b more hb hmore =>
      have hhop : nextTap c true = t ∨ nextTap c false = t := by
        cases b
        · exact .inr (hopBit_next c t _ hb)
        · exact .inl (hopBit_next c t _ hb)
      simp [walkOk, ih hrest hmore, hhop, ht]
    next => cases h

theorem walkOk_iff (c : TapState) (targets : List TapState) :
    walkOk c targets = true ↔ targets.all isIeee = true ∧ (walkBits c targets).isSome = true := by
  rw [Option.isSome_iff_exists]
  exact ⟨walkBits_of_walkOk, fun ⟨hieee, _, hbits⟩ => walkOk_of_walkBits hieee hbits⟩

/-- The bits of a walk take the replica through its targets one by one (R225). -/
theorem walkBits_path {c : TapState} {targets : List TapState} {bits : BitStream}
    (h : walkBits c targets = some bits) :
    ∀ k, k ≤ targets.length → runTap c (bits.take k) = (c :: targets).getD k .inv := by
  induction targets generalizing c bits with
  | nil => intro k hk; cases h; rw [Nat.le_zero.1 hk]; rfl
  | cons t rest ih =>
    simp only [walkBits] at h
    split at h
    next b more hb hmore =>
      cases h
      intro k hk
      cases k with
      | zero => rfl
      | succ k =>
        have hhop : runTap c ((b :: more).take (k + 1)) = runTap t (more.take k) := by
          rw [← hopBit_next c t b hb]; rfl
        rw [hhop, ih hmore k (Nat.le_of_succ_le_succ hk)]
        rfl
    next => cases h

/-- A walk that passes its checks queues a bit per target and is the flush of them (R225, decision D28). -/
theorem execGoThruStates_eq_flush {s : State} {targets : List TapState} (htap : s.tapState ≠ .inv)
    (hwalk : walkOk s.tapState targets = true) (hfits : s.fits (s.tmsBuf.length + targets.length) = true)
    (hc : ¬ countTooLong (s.tmsBuf.length + targets.length) s.tdiBuf.length) :
    ∃ bits : BitStream, bits.length = targets.length ∧
      (∀ k, k ≤ targets.length → runTap s.tapState (bits.take k) = (s.tapState :: targets).getD k .inv) ∧
      exec (.goThruStates targets) s =
        exec .flush { s with tmsBuf := s.tmsBuf ++ bits, tapState := targets.getLastD s.tapState } := by
  obtain ⟨hieee, bits, hbits⟩ := walkBits_of_walkOk hwalk
  obtain ⟨hlen, hrun⟩ := walkBits_spec _ _ _ hbits
  refine ⟨bits, hlen, walkBits_path hbits, ?_⟩
  rw [execFlush_body (by simpa [hlen] using hc)]
  refine next_guarded ?_ ?_
  · simp only [List.forall_mem_cons]
    exact ⟨(isIeee_iff _).2 htap, hieee, by rw [hbits]; rfl, hfits, (flushCounts_iff _ _).2 hc, by simp⟩
  · rw [hbits, Option.getD_some, queueAll_eq, hrun]

/-- Settles O39: the flush of the walk's bits, of which an empty walk has none. -/
theorem goThruStatesResult : Obligations.GoThruStatesResult := by
  refine ⟨fun s targets htap hne hwalk htms htdi hfits hn hp hw => ?_, fun s htap htms htdi => ?_,
    fun s targets htap hwalk hfits hc => execGoThruStates_eq_flush htap hwalk hfits hc⟩
  · obtain ⟨bits, hlen, hpath, e⟩ := execGoThruStates_eq_flush htap hwalk (by simpa [htms] using hfits)
      (by rw [htms, htdi, List.length_nil, Nat.zero_add]; omega)
    have hpos := List.length_pos_iff.2 hne
    refine ⟨bits, hlen, hpath, ?_⟩
    rw [e, execFlush_queued _ htms htdi (by omega) (by omega) hp hw, hlen]
  · obtain ⟨bits, hlen, _, e⟩ := execGoThruStates_eq_flush (targets := []) htap rfl (by rw [htms]; exact fits_zero s)
      (by rw [htms, htdi]; decide)
    rw [e, List.eq_nil_of_length_eq_zero hlen, List.append_nil]
    exact flushEmptyResult s htms htdi

/-- Settles O40: the first check that fails; a walk out of order fails one of the two checks of R225. -/
theorem goThruStatesRefusals : Obligations.GoThruStatesRefusals := by
  intro s targets
  refine ⟨fun htap => refused_guarded ?_ _ _ _, fun htap hwalk => refused_guarded ?_ _ _ _,
    fun htap hwalk hfits => refused_guarded ?_ _ _ _, fun htap hwalk hfits hc => refused_guarded ?_ _ _ _⟩
  · simp [firstFailure, htap, isIeee]
  · have htap := (isIeee_iff _).2 htap
    rw [← Bool.not_eq_true, walkOk_iff, not_and] at hwalk
    cases hieee : targets.all isIeee with
    | false => simp only [firstFailure, htap]
    | true => simp only [firstFailure, htap, Bool.eq_false_of_not_eq_true (hwalk hieee)]
  · obtain ⟨hieee, hbits⟩ := (walkOk_iff _ _).1 hwalk
    simp only [firstFailure, (isIeee_iff _).2 htap, hieee, hbits, hfits]
  · obtain ⟨hieee, hbits⟩ := (walkOk_iff _ _).1 hwalk
    simp only [firstFailure, (isIeee_iff _).2 htap, hieee, hbits, hfits, flushCounts_of_tooLong hc]

end Sys2Proof.Machine
end

section
/-! The statements of 43_jtag_ops.md about `shift_tdi` (R230, R214). -/

namespace Sys2Proof.Machine

/-! ### What `shift_tdi` queues -/

/-- The state `shift_tdi` queues its bits in, written out, where no TMS bit was queued before. -/
theorem queueShift_eq {s : State} (htms : s.tmsBuf = []) (bits : BitStream) (e : Bool) :
    queueShift bits e s = { s with
      tdiBuf := s.tdiBuf ++ bits
      tmsBuf := if e then [true] else []
      tapState := if e then nextTap s.tapState true else s.tapState } := by
  cases e <;> simp [queueShift, queueTms, htms]

/-- The count check of a `shift_tdi` with flush: with exit the last TDI bit goes out in a frame of its own (R214). -/
theorem countTooLong_exit_iff (e : Bool) (d : Nat) :
    countTooLong (if e then 1 else 0) d ↔ 2 ^ 32 + (if e then 1 else 0) ≤ d := by
  cases e
  · simp only [Bool.false_eq_true, if_false]; omega
  · simp only [if_true]; omega

/-- The check of the room for the exit bit (R197). -/
theorem exitRoom {s : State} {e : Bool} (htms : s.tmsBuf = []) (h : e = true → s.fits 1 = true) :
    (!e || s.fits (s.tmsBuf.length + 1)) = true := by
  rw [htms]
  cases e
  · rfl
  · exact h rfl

/-- The checks of `shift_tdi` (R230, R197), all met: its body runs. -/
theorem execShiftTdi_body {s : State} {bits : BitStream} {e : Bool} (f : Bool) (hshift : s.inShift = true)
    (htms : s.tmsBuf = []) (hroom : s.fits (s.tdiBuf.length + bits.length) = true)
    (hroomTms : e = true → s.fits 1 = true)
    (hc : f = true → ¬ countTooLong (if e then 1 else 0) (s.tdiBuf.length + bits.length)) :
    exec (.shiftTdi bits e f) s =
      .next (if f then flushBuffers (queueShift bits e s) else answered .none (queueShift bits e s)) := by
  refine next_guarded ?_ (by rw [← complete_noError]; rfl)
  simp only [List.forall_mem_cons]
  refine ⟨hshift, tmsEmpty_of_nil htms, hroom, exitRoom htms hroomTms, ?_, by simp⟩
  cases f
  · rfl
  · exact (flushCounts_iff _ _).2 (hc rfl)

/-- What `shift_tdi` queues is flushed (R230). -/
theorem execShiftTdi_eq_flush {s : State} {bits : BitStream} {e : Bool} (hshift : s.inShift = true)
    (htms : s.tmsBuf = []) (hroom : s.fits (s.tdiBuf.length + bits.length) = true)
    (hroomTms : e = true → s.fits 1 = true)
    (hlt : s.tdiBuf.length + bits.length < 2 ^ 32 + (if e then 1 else 0)) :
    exec (.shiftTdi bits e true) s = exec .flush (queueShift bits e s) := by
  have hc : ¬ countTooLong (if e then 1 else 0) (s.tdiBuf.length + bits.length) := by
    rw [countTooLong_exit_iff]; omega
  have hqueued : (queueShift bits e s).tmsBuf.length = if e then 1 else 0 := by
    rw [queueShift_tmsBuf, htms]; cases e <;> rfl
  rw [execShiftTdi_body true hshift htms hroom hroomTms fun _ => hc, execFlush_body]
  · rfl
  · rwa [hqueued, queueShift_tdiBuf, List.length_append]

/-- Settles O41: the first check that fails, the queuing, and the flush of what was queued. -/
theorem shiftTdiResult : Obligations.ShiftTdiResult := by
  intro s bits e f
  refine ⟨fun hshift => violates_of_exec (refused_guarded ?_ .none _ _),
    fun hshift htms => violates_of_exec (refused_guarded ?_ .none _ _),
    fun hshift htms hroom => violates_of_exec (refused_guarded ?_ .none _ _),
    fun hshift htms hroom he hroomTms => violates_of_exec (refused_guarded ?_ .none _ _),
    fun hshift htms hroom hroomTms => ⟨?_, fun hlt => ?_, fun hle => violates_of_exec (refused_guarded ?_ .none _ _)⟩⟩
  · simp only [firstFailure, hshift]
  · simp only [firstFailure, hshift, tmsEmpty_of_ne_nil htms]
  · simp only [firstFailure, hshift, tmsEmpty_of_nil htms, hroom]
  · simp only [firstFailure, hshift, tmsEmpty_of_nil htms, hroom, he, htms, List.length_nil, hroomTms]
    rfl
  · rw [execShiftTdi_body false hshift htms hroom hroomTms (by simp), queueShift_eq htms]
    rfl
  · rw [execShiftTdi_eq_flush hshift htms hroom hroomTms hlt, queueShift_eq htms]
  · have hc := flushCounts_of_tooLong ((countTooLong_exit_iff e _).2 hle)
    simp only [firstFailure, hshift, tmsEmpty_of_nil htms, hroom, exitRoom htms hroomTms, hc]
    rfl

theorem exitTap_eq {s : TapState} (h : isShift s = true) : nextTap s true = if s = .shdr then .e1dr else .e1ir := by
  rcases (isShift_iff s).1 h with rfl | rfl <;> rfl

/-- Settles O42: the queued bits and the queued exit are the split case of a flush. -/
theorem shiftTdiExitResult : Obligations.ShiftTdiExitResult := by
  intro s bits hshift htms htdi hlen hle hfits hp hw hw1
  have hroom : s.fits (s.tdiBuf.length + bits.length) = true := by
    rw [htdi, List.length_nil, Nat.zero_add]; exact hfits
  have hqueued : (queueShift bits true s).tdiBuf = bits := by rw [queueShift_tdiBuf, htdi, List.nil_append]
  have hlast : (bits.drop (bits.length - 1)).length = 1 := by rw [List.length_drop]; omega
  have hflush := execFlush_split_delivered (s := queueShift bits true s) (b := true) (by rw [queueShift_eq htms]; rfl)
    (by rwa [hqueued]) rfl (by rw [hqueued]; omega) hp hw hw1
  rw [execShiftTdi_eq_flush hshift htms hroom (fun _ => fits_mono (by omega) hfits)
    (by rw [htdi, List.length_nil, if_pos rfl]; omega), hflush, hqueued, packBits_single hlast, ← exitTap_eq hshift]
  conv_rhs => rw [← emptied_eq htms htdi]
  rfl

end Sys2Proof.Machine
end

section
/-! The statements of 43_jtag_ops.md about `shift_tdo` (R234 to R236). -/

namespace Sys2Proof.Machine

open Sys2Proof.Config

/-! ### How a read ends, from the outcome of its scans -/

theorem readPlain_of_ok {n : Nat} {s t : State} {bits : BitStream} (hn : n ≠ 0)
    (h : scanTdo n flagsRead s = ⟨.noError, bits, t⟩) (out : BitStream) :
    readPlain n out s = answered (.stream (out ++ bits)) t := by
  simp only [readPlain, if_neg hn, h, complete_noError]

theorem readPlain_of_failed {n : Nat} {s t : State} {c : Cause} {bits : BitStream} (hn : n ≠ 0)
    (h : scanTdo n flagsRead s = ⟨c, bits, t⟩) (hc : c ≠ .noError) (out : BitStream) :
    readPlain n out s = raised c (.stream out) t := by
  rw [readPlain, if_neg hn, h]
  split
  next heq => cases heq; exact absurd rfl hc
  next heq => cases heq; rfl

theorem readExit_of_ok {s t : State} {bits : BitStream}
    (h : scanTdo 1 flagsExit { s with tapState := nextTap s.tapState true } = ⟨.noError, bits, t⟩)
    (first out : BitStream) : readExit first out s = answered (.stream (out ++ (first ++ bits))) t := by
  simp only [readExit, h, complete_noError]

theorem readExit_of_failed {s t : State} {c : Cause} {bits : BitStream}
    (h : scanTdo 1 flagsExit { s with tapState := nextTap s.tapState true } = ⟨c, bits, t⟩) (hc : c ≠ .noError)
    (first out : BitStream) : readExit first out s = raised c (.stream out) t := by
  rw [readExit, h]
  split
  next heq => cases heq; exact absurd rfl hc
  next heq => cases heq; rfl

theorem readThenExit_of_ok {n : Nat} {s t : State} {bits : BitStream} (hn : 2 ≤ n)
    (h : scanTdo (n - 1) flagsRead s = ⟨.noError, bits, t⟩) (out : BitStream) :
    readThenExit n out s = readExit bits out t := by
  simp only [readThenExit, if_neg (show ¬ n ≤ 1 by omega), h]

theorem readThenExit_of_failed {n : Nat} {s t : State} {c : Cause} {bits : BitStream} (hn : 2 ≤ n)
    (h : scanTdo (n - 1) flagsRead s = ⟨c, bits, t⟩) (hc : c ≠ .noError) (out : BitStream) :
    readThenExit n out s = raised c (.stream out) t := by
  rw [readThenExit, if_neg (by omega), h]
  split
  next heq => cases heq; exact absurd rfl hc
  next heq => cases heq; rfl

/-! ### Completed reads -/

/-- Settles O43: one scan with TMS low, none for no bits. -/
theorem shiftTdoPlainResult : Obligations.ShiftTdoPlainResult := by
  refine ⟨fun s n out y hshift htms htdi hpos hn hfits hp hs hw hr hy => ?_, fun s out hshift htms htdi hfits => ?_⟩
  · subst hy
    rw [execShiftTdo_body false hshift htms htdi hpos hn hfits]
    exact congrArg _ (readPlain_of_ok hpos.ne' (scanTdo_clean (level := false) hp hs hw hr hn) out)
  · refine next_guarded ?_ (complete_noError _ s)
    simp only [List.forall_mem_cons]
    exact ⟨hshift, tmsEmpty_of_nil htms, tdiEmpty_of_nil htdi, rfl, rfl, hfits, by simp⟩

/-- The exit frame of a clean port reads one bit, the replica having been stepped. -/
theorem readExit_clean {s : State} (hp : s.params.portPresent = true) (hs : s.cleanPort) (hw : s.writeAnswer 0 = .ok)
    (hr : s.readAnswer 0 = .ok) (first out : BitStream) :
    readExit first out s = answered (.stream (out ++ (first ++ [(s.replyByte 0).getLsbD 0])))
      (scanned 1 true (.read 1 [s.replyByte 0]) s.inbound { s with tapState := nextTap s.tapState true }) :=
  readExit_of_ok (scanTdo_clean (s := { s with tapState := nextTap s.tapState true }) (n := 1) (level := true)
    hp hs hw hr (by decide)) first out

/-- The exit frame after a read frame, the port still being clean. -/
theorem readExit_scanned {s : State} {n : Nat} {reading : Transaction} (hp : s.params.portPresent = true)
    (hs : s.cleanPort) (hw1 : s.writeAnswer 1 = .ok) (hr1 : s.readAnswer 1 = .ok) (first out : BitStream) :
    readExit first out (scanned n false reading s.inbound s) =
      answered (.stream (out ++ (first ++ [(s.replyByte (ceil8 n)).getLsbD 0])))
        { used 2 2 (ceil8 n + 1) 0 s with
          tapState := nextTap s.tapState true
          port := s.port ++ [.write (jframe s n 0x01 []), reading, .write (jframe s 1 0x05 []),
            .read 1 [s.replyByte (ceil8 n)]]
          physTap := nextTap (runTap s.physTap (List.replicate n false)) true
          pins := s.pins ++ readCycles false (unpackBits (nextReply (ceil8 n) s) n) ++
            readCycles true [(s.replyByte (ceil8 n)).getLsbD 0] } := by
  have hlast := readExit_clean (s := scanned n false reading s.inbound s) hp hs
    ((scanned_writeAnswer _ _ _ _ s 0).trans hw1) ((scanned_readAnswer _ _ _ _ s 0).trans hr1) first out
  rw [scanned_exit, scanned_replyByte] at hlast
  exact hlast

/-- Settles O44: a scan with TMS low, and one bit with TMS high; the second alone for one bit. -/
theorem shiftTdoExitResult : Obligations.ShiftTdoExitResult := by
  refine ⟨fun s n out y z hshift htms htdi hlen hn hfits hp hs hw hw1 hr hr1 hy hz => ?_,
    fun s out z hshift htms htdi hfits hp hs hw hr hz => ?_⟩
  · subst hy hz
    have hfirst := scanTdo_clean (n := n - 1) (level := false) hp hs hw hr (by omega)
    rw [execShiftTdo_body true hshift htms htdi (by omega) hn hfits, ← exitTap_eq hshift, if_pos rfl,
      readThenExit_of_ok hlen hfirst, readExit_scanned hp hs hw1 hr1, ← List.append_assoc out]
    rfl
  · subst hz
    rw [execShiftTdo_body true hshift htms htdi (by decide) (by decide) hfits, ← exitTap_eq hshift]
    exact congrArg _ (readExit_clean hp hs hw hr [] out)

/-! ### Refused reads -/

/-- Settles O45: the first check that fails. -/
theorem shiftTdoRefusals : Obligations.ShiftTdoRefusals := by
  intro s n e out
  refine ⟨fun hshift => refused_guarded ?_ _ _ _, fun hshift htms => refused_guarded ?_ _ _ _,
    fun hshift htms htdi => refused_guarded ?_ _ _ _, fun hshift htms htdi hn => refused_guarded ?_ _ _ _,
    fun hshift htms htdi hn he => refused_guarded ?_ _ _ _,
    fun hshift htms htdi hn hpos hfits => refused_guarded ?_ _ _ _⟩
  · simp only [firstFailure, hshift]
  · simp only [firstFailure, hshift, tmsEmpty_of_ne_nil htms]
  · simp only [firstFailure, hshift, tmsEmpty_of_nil htms, tdiEmpty_of_ne_nil htdi]
  · have hcount : fitsCount n = false := by rw [← Bool.not_eq_true, fitsCount_iff]; omega
    simp only [firstFailure, hshift, tmsEmpty_of_nil htms, tdiEmpty_of_nil htdi, hcount]
  · subst hn he
    simp only [firstFailure, hshift, tmsEmpty_of_nil htms, tdiEmpty_of_nil htdi]
    rfl
  · have hexit : (!e || decide (1 ≤ n)) = true := by cases e <;> simp [hpos]
    simp only [firstFailure, hshift, tmsEmpty_of_nil htms, tdiEmpty_of_nil htdi, (fitsCount_iff n).2 hn, hexit, hfits]

/-! ### Failed reads -/

theorem readPlain_result {n : Nat} {out : BitStream} {s : State} (h : (readPlain n out s).cause ≠ .noError) :
    (readPlain n out s).result = .stream out := by
  by_cases hn : n = 0
  · simp [readPlain, hn] at h
  · rcases hs : scanTdo n flagsRead s with ⟨c, bits, t⟩
    by_cases hc : c = .noError
    · subst hc; rw [readPlain_of_ok hn hs] at h; exact absurd rfl h
    · rw [readPlain_of_failed hn hs hc]; rfl

/-- An exit frame that failed gives `out` back, and the bits read before it make no difference. -/
theorem readExit_error {first out : BitStream} {s : State} (h : (readExit first out s).cause ≠ .noError) :
    (readExit first out s).result = .stream out ∧ ∀ first', readExit first' out s = readExit first out s := by
  rcases hs : scanTdo 1 flagsExit { s with tapState := nextTap s.tapState true } with ⟨c, bits, t⟩
  by_cases hc : c = .noError
  · subst hc; rw [readExit_of_ok hs] at h; exact absurd rfl h
  · rw [readExit_of_failed hs hc]
    exact ⟨rfl, fun first' => readExit_of_failed hs hc first' out⟩

theorem readThenExit_result {n : Nat} {out : BitStream} {s : State} (hpos : 1 ≤ n)
    (h : (readThenExit n out s).cause ≠ .noError) : (readThenExit n out s).result = .stream out := by
  rcases Nat.eq_or_lt_of_le hpos with rfl | hn
  · exact (readExit_error h).1
  · rcases hs : scanTdo (n - 1) flagsRead s with ⟨c, bits, t⟩
    by_cases hc : c = .noError
    · subst hc; rw [readThenExit_of_ok hn hs] at h ⊢; exact (readExit_error h).1
    · rw [readThenExit_of_failed hn hs hc]; rfl

/-- A failed `shift_tdo` gives `out` back, and its replica has made the exit step or none. -/
theorem execShiftTdo_failed {n : Nat} {e : Bool} {out : BitStream} {s t : State}
    (h : exec (.shiftTdo n e out) s = .next t) (herr : t.cause ≠ .noError) :
    t.result = .stream out ∧ (t.tapState = s.tapState ∨ (e = true ∧ t.tapState = nextTap s.tapState true)) := by
  cases exec_ran h with
  | refused k request => exact ⟨rfl, .inl rfl⟩
  | answered r pure => cases pure
  | frame hf => cases hf
  | flushed queues counts => cases queues
  | read out shift tms tdi count => exact ⟨readPlain_result herr, .inl (execShiftTdo_tapState h)⟩
  | readExit out shift tms tdi count pos =>
    refine ⟨readThenExit_result pos herr, ?_⟩
    rcases readThenExit_concludes count out s with ⟨c, u, _, htrans, _, e⟩ | ⟨c, r, u, htrans, _, e⟩ <;> rw [e]
    · exact .inl htrans.tapState
    · rw [conclude_tapState]; exact .inr ⟨rfl, htrans.tapState⟩

/-- The first transfers of an operation fail: there is no port, or the write or the read is answered with a failure. -/
def FirstFails (s : State) : Prop :=
  s.params.portPresent = false ∨ (∃ why d, s.writeAnswer 0 = .failed why d) ∨ s.readAnswer 0 ≠ .ok

/-- A first scan that fails ends an exit read as it ends the plain read of one bit less, the replica staying. -/
theorem readThenExit_firstFails {s : State} {n : Nat} (hn : 2 ≤ n) (h : FirstFails s) (out : BitStream) :
    readThenExit n out s = readPlain (n - 1) out s ∧ (readThenExit n out s).tapState = s.tapState := by
  have hc := scanTdo_fails (n - 1) flagsRead h
  have hb := scanTdo_behindPort (n - 1) flagsRead s
  rcases hs : scanTdo (n - 1) flagsRead s with ⟨c, bits, t⟩
  rw [hs] at hc hb
  rw [readThenExit_of_failed hn hs hc, readPlain_of_failed (by omega) hs hc]
  exact ⟨rfl, hb.tapState⟩

theorem execShiftTdo_firstFails_tapState {n : Nat} {out : BitStream} {s t : State} (hn : 2 ≤ n) (hf : FirstFails s)
    (h : exec (.shiftTdo n true out) s = .next t) : t.tapState = s.tapState := by
  cases exec_ran h with
  | refused k request => rfl
  | answered r pure => cases pure
  | frame hf => cases hf
  | flushed queues counts => cases queues
  | readExit out shift tms tdi count pos => exact (readThenExit_firstFails hn hf out).2

/-- A read frame whose write failed has left a target in a Shift state where it was (70 R336). -/
theorem brokenTap_flagsRead (len : BitVec 32) (payload : List Byte) (free : TapState) (s : State) :
    brokenTap (.j len flagsRead payload) free s = if isShift s.physTap = true then s.physTap else free := by
  simp [brokenTap]

/-- Settles O46: the outcome of each scan, of the first frame and of the exit frame. -/
theorem failedShiftTdoKeepsOut : Obligations.FailedShiftTdoKeepsOut := by
  refine ⟨fun s t n e out h herr => execShiftTdo_failed h herr,
    fun s t n out hn hf h => execShiftTdo_firstFails_tapState hn hf h,
    fun s n out hshift htms htdi hlen hn hfits hf => ?_,
    fun s t n out y hshift htms htdi hlen hn hfits hp hw hr hy h herr => ?_,
    fun s n out why d hshift htms htdi hpos hn hfits hp hw => ?_,
    fun s n out y why pending hshift htms htdi hpos hn hfits hp hw hr hy => ?_,
    fun s out why d hshift htms htdi hfits hp hw => ?_,
    fun s out z why pending hshift htms htdi hfits hp hw hr hz => ?_⟩
  · rw [execShiftTdo_body true hshift htms htdi (by omega) hn hfits,
      execShiftTdo_body false hshift htms htdi (by omega) (by omega) (fits_mono (by omega) hfits)]
    exact congrArg _ (readThenExit_firstFails hlen hf out).1
  · subst hy
    have hfirst := scanTdo_ok (n := n - 1) (level := false) hp hw hr (by omega) rfl
    cases h.symm.trans (execShiftTdo_body true hshift htms htdi (by decide) (by decide) (fits_mono (by omega) hfits))
    rw [execShiftTdo_body true hshift htms htdi (by omega) hn hfits, if_pos rfl, readThenExit_of_ok hlen hfirst]
    exact congrArg _ ((readExit_error herr).2 _)
  · rw [execShiftTdo_body false hshift htms htdi hpos hn hfits]
    have hscan := scanTdo_writeFailed (n := n) (flags := flagsRead) hp hw hn
    rw [brokenTap_flagsRead] at hscan
    exact congrArg _ (readPlain_of_failed hpos.ne' hscan (writeCause_ne why) out)
  · subst hy
    rw [execShiftTdo_body false hshift htms htdi hpos hn hfits]
    exact congrArg _ (readPlain_of_failed hpos.ne' (scanTdo_readFailed (level := false) hp hw hr hn)
      (readCause_ne why) out)
  · rw [execShiftTdo_body true hshift htms htdi (by decide) (by decide) hfits]
    exact congrArg _ (readExit_of_failed (s := s) (scanTdo_writeFailed (n := 1) (flags := flagsExit)
      (s := { s with tapState := nextTap s.tapState true }) hp hw (by decide)) (writeCause_ne why) [] out)
  · subst hz
    rw [execShiftTdo_body true hshift htms htdi (by decide) (by decide) hfits]
    exact congrArg _ (readExit_of_failed (s := s) (scanTdo_readFailed (n := 1) (level := true)
      (s := { s with tapState := nextTap s.tapState true }) hp hw hr (by decide)) (readCause_ne why) [] out)

end Sys2Proof.Machine
end

section
/-! The statement of 43_jtag_ops.md about `run_test` (R240), and the post-conditions of the sequencer operations
(R245). -/

namespace Sys2Proof.Machine

open Sys2Proof.Config

/-! ### `run_test` -/

/-- The state after a delivered R-frame: the echo sits in the port. -/
def pulsed (n : Nat) (s : State) : State :=
  { used 1 0 5 1 s with
    port := s.port ++ [.write (rframe s n)]
    physTap := frameTap (.r (count32 n)) s
    pins := s.pins ++ [.pulses n s.params.runtestTmsLevel]
    inbound := s.inbound ++ nextReply 5 s }

theorem frameBytes_pulses (s : State) {n : Nat} (hn : n < 2 ^ 32) :
    frameBytes s.params (.r (count32 n)) = rframe s n := by
  rw [frameBytes_r, count32_toNat hn]

theorem emitFrame_pulsed {s : State} {n : Nat} (hp : s.params.portPresent = true) (hw : s.writeAnswer 0 = .ok)
    (hn : n < 2 ^ 32) : emitFrame (.r (count32 n)) s = (.noError, pulsed n s) := by
  have hpins : framePins (.r (count32 n)) (nextReply 5 s) s.params.runtestTmsLevel =
      [.pulses n s.params.runtestTmsLevel] := by rw [framePins, count32_toNat hn]
  rw [emitFrame_delivered hp hw, frameBytes_pulses s hn, pulsed, ← hpins]
  rfl

/-- The state after an R-frame and the read transfer of its echo, with what is pending then. -/
def echoed (n : Nat) (reading : Transaction) (pending : List Byte) (s : State) : State :=
  { used 1 1 5 1 s with
    port := s.port ++ [.write (rframe s n), reading]
    physTap := frameTap (.r (count32 n)) s
    pins := s.pins ++ [.pulses n s.params.runtestTmsLevel]
    inbound := pending }

theorem recordRead_pulsed (n : Nat) (reading : Transaction) (pending : List Byte) (s : State) :
    recordRead reading pending (pulsed n s) = echoed n reading pending s := by
  simp [recordRead, pulsed, echoed, used]

/-- On a clean port the read takes the echo and leaves nothing (R322). -/
theorem portRead_echo {s : State} {n : Nat} (hp : s.params.portPresent = true) (hs : s.cleanPort)
    (hr : s.readAnswer 0 = .ok) :
    portRead echoBytes (pulsed n s) =
      ⟨.noError, nextReply 5 s, echoed n (.read 5 (nextReply 5 s)) s.inbound s⟩ := by
  have hin : (pulsed n s).inbound = nextReply 5 s := by rw [pulsed, hs, List.nil_append]
  have hlen : (nextReply 5 s).length = 5 := length_nextReply 5 s
  have hread := portRead_taken (n := 5) (s := pulsed n s) hp hr (by rw [hin, hlen])
  rwa [recordRead_pulsed, hin, List.take_of_length_le hlen.le, List.drop_eq_nil_of_le hlen.le, ← hs] at hread

theorem portRead_echo_failed {s : State} {n : Nat} {why : ReadFailure} {pending : List Byte}
    (hp : s.params.portPresent = true) (hr : s.readAnswer 0 = .failed why pending) :
    portRead echoBytes (pulsed n s) = ⟨readCause why, [], echoed n (.readFailed 5 why) pending s⟩ := by
  have hread := portRead_failed (n := 5) (s := pulsed n s) hp hr
  rwa [recordRead_pulsed] at hread

/-- The body of `run_test` behind its checks (R240), all met. -/
theorem execRunTest_body {s : State} {n : Nat} (hn : n < 2 ^ 32) (htms : s.tmsBuf = []) (htdi : s.tdiBuf = [])
    {after t : State} (e : after = t) :
    Host.Outcome.next (guarded
      [(fitsCount n, .lenOverflow), (s.tmsEmpty, .tmsNotEmpty), (s.tdiEmpty, .tdiNotEmpty)] .none s after) =
        (.next t : Host.Outcome State Fault Refusal) := by
  refine next_guarded ?_ e
  simp only [List.forall_mem_cons]
  exact ⟨(fitsCount_iff n).2 hn, tmsEmpty_of_nil htms, tdiEmpty_of_nil htdi, by simp⟩

section

variable {s : State} {n : Nat} (hn : n < 2 ^ 32) (htms : s.tmsBuf = []) (htdi : s.tdiBuf = [])
  (hp : s.params.portPresent = true)
include hn htms htdi hp

theorem execRunTest_echoed (hs : s.cleanPort) (hw : s.writeAnswer 0 = .ok) (hr : s.readAnswer 0 = .ok) :
    exec (.runTest n) s =
      .next (checkEcho (nextReply 5 s) (echoed n (.read 5 (nextReply 5 s)) s.inbound s)) :=
  execRunTest_body hn htms htdi (by rw [emitFrame_pulsed hp hw hn]; simp only [portRead_echo hp hs hr])

theorem execRunTest_readFailed (hw : s.writeAnswer 0 = .ok) {why : ReadFailure} {pending : List Byte}
    (hr : s.readAnswer 0 = .failed why pending) :
    exec (.runTest n) s =
      .next (raised (readCause why) .none (echoed n (.readFailed 5 why) pending s)) :=
  execRunTest_body hn htms htdi (by
    rw [emitFrame_pulsed hp hw hn]
    simp only [portRead_echo_failed hp hr]
    cases why <;> rfl)

theorem execRunTest_writeFailed {why : WriteFailure} {d : Disturbance} (hw : s.writeAnswer 0 = .failed why d) :
    exec (.runTest n) s = .next (raised (writeCause why) .none
      (undelivered (rframe s n) (brokenTap (.r (count32 n)) (ieeeState d.tap) s) why d s)) :=
  execRunTest_body hn htms htdi (by
    rw [emitFrame_failed hp hw, frameBytes_pulses s hn]
    cases why <;> rfl)

end

theorem checkEcho_match {y : List Byte} {s : State} (h : y.head? = some s.params.runtestCmd) :
    checkEcho y s = answered .none s := by
  rw [checkEcho, if_pos h, complete_noError]

theorem checkEcho_mismatch {y : List Byte} {s : State} (h : y.head? ≠ some s.params.runtestCmd) :
    checkEcho y s = raised .echoMismatch .none s := by
  rw [checkEcho, if_neg h, raise_eq]

/-- Where the pulses of an R-frame leave the target: in `RTI` under the premise of R339, in a free state otherwise. -/
theorem pulsedTap_spec {s : State} {free : TapState} (hfree : free ≠ .inv) :
    (if pulsesHold s then s.physTap else free) ≠ .inv ∧
      (s.tapState = .rti → s.physTap = .rti → s.params.runtestTmsLevel = false →
        (if pulsesHold s then s.physTap else free) = .rti) := by
  by_cases hhold : pulsesHold s = true
  · obtain ⟨_, htarget, _⟩ := (pulsesHold_iff s).1 hhold
    rw [if_pos hhold, htarget]
    exact ⟨by decide, fun _ _ _ => rfl⟩
  · rw [if_neg hhold]
    exact ⟨hfree, fun hreplica htarget hlevel => absurd ((pulsesHold_iff s).2 ⟨hreplica, htarget, hlevel⟩) hhold⟩

/-- Settles O47: the echo checked, the failed read, the failed write, and the first check that fails. -/
theorem runTestResult : Obligations.RunTestResult := by
  refine ⟨fun s n y hn htms htdi hp hw hy => ?_, fun s n why d hn htms htdi hp hw => ?_, fun s n =>
    ⟨fun hn => refused_guarded ?_ _ _ _, fun hn htms => refused_guarded ?_ _ _ _,
      fun hn htms htdi => refused_guarded ?_ _ _ _⟩⟩
  · subst hy
    obtain ⟨hieee, hhold⟩ := pulsedTap_spec (s := s) (ieeeState_ne_inv (freeTap s.tapCount))
    refine ⟨frameTap (.r (count32 n)) s, hieee, hhold, fun hs hr hecho => ?_, fun hs hr hecho => ?_,
      fun why pending hr => execRunTest_readFailed hn htms htdi hp hw hr⟩
    · rw [execRunTest_echoed hn htms htdi hp hs hw hr, checkEcho_match (s := echoed n _ _ s) hecho]
      rfl
    · rw [execRunTest_echoed hn htms htdi hp hs hw hr, checkEcho_mismatch (s := echoed n _ _ s) hecho]
      conv_rhs => rw [← emptied_eq htms htdi]
      rfl
  · obtain ⟨hieee, hhold⟩ := pulsedTap_spec (s := s) (ieeeState_ne_inv d.tap)
    exact ⟨_, hieee, hhold, execRunTest_writeFailed hn htms htdi hp hw⟩
  · have hcount : fitsCount n = false := by rw [← Bool.not_eq_true, fitsCount_iff]; omega
    simp only [firstFailure, hcount]
  · simp only [firstFailure, (fitsCount_iff n).2 hn, tmsEmpty_of_ne_nil htms]
  · simp only [firstFailure, (fitsCount_iff n).2 hn, tmsEmpty_of_nil htms, tdiEmpty_of_ne_nil htdi]

/-! ### Post-conditions -/

theorem isShift_exit {s : TapState} (h : isShift s = true) : isShift (nextTap s true) = false := by
  rcases exit_of_isShift h with e | e <;> rw [e] <;> rfl

theorem execFlush_post {s t : State} (h : exec .flush s = .next t) (hv : isViolation t.cause = false) :
    t.tmsBuf = [] ∧ t.tdiBuf = [] := by
  cases exec_ran h with
  | refused k request => cases hv
  | answered r pure => cases pure
  | frame hf => cases hf
  | flushed queues counts => exact (flushBuffers_empties counts).2

theorem execShiftTdi_post {bits : BitStream} {f : Bool} {s t : State} (h : exec (.shiftTdi bits true f) s = .next t)
    (hv : isViolation t.cause = false) : isShift t.tapState = false := by
  cases exec_ran h with
  | refused k request => cases hv
  | answered r pure => cases pure
  | frame hf => cases hf
  | flushed queues counts =>
    cases queues with
    | shiftTdi _ _ shift tms =>
      rw [(flushBuffers_empties counts).1]
      exact isShift_exit shift
  | queued _ _ shift tms room roomTms => exact isShift_exit shift

theorem execShiftTdo_post {n : Nat} {out : BitStream} {s t : State} (h : exec (.shiftTdo n true out) s = .next t)
    (hok : t.cause = .noError) : isShift t.tapState = false := by
  cases exec_ran h with
  | refused k request => cases hok
  | answered r pure => cases pure
  | frame hf => cases hf
  | flushed queues counts => cases queues
  | readExit _ shift tms tdi count pos =>
    rcases readThenExit_concludes count out s with ⟨c, u, hc, _, _, e⟩ | ⟨c, r, u, htrans, _, e⟩ <;> rw [e] at hok ⊢
    · exact absurd hok hc
    · rw [conclude_tapState, htrans.tapState]
      exact isShift_exit shift

theorem execResetTap_post {s t : State} (h : exec .resetTap s = .next t) (hv : isViolation t.cause = false) :
    t.tapState = .tlr := by
  cases exec_ran h with
  | refused k request => cases hv
  | answered r pure => cases pure
  | frame hf => cases hf
  | flushed queues counts =>
    cases queues
    exact (flushBuffers_empties counts).1

theorem execGoThruStates_post {targets : List TapState} {s t : State}
    (h : exec (.goThruStates targets) s = .next t) (hv : isViolation t.cause = false) :
    t.tapState = targets.getLastD s.tapState ∧ t.tmsBuf = [] := by
  cases exec_ran h with
  | refused k request => cases hv
  | answered r pure => cases pure
  | frame hf => cases hf
  | flushed queues counts =>
    cases queues with
    | goThruStates walk =>
      obtain ⟨htap, htms, _⟩ := flushBuffers_empties counts
      exact ⟨htap.trans (walkBits_spec _ _ _ walk).2, htms⟩

/-- Settles O60, operation by operation. -/
theorem postConditions : Obligations.PostConditions := fun _ _ =>
  ⟨execFlush_post, fun _ _ => execShiftTdi_post, fun _ _ => execShiftTdo_post, execResetTap_post,
    fun _ => execGoThruStates_post⟩

end Sys2Proof.Machine
end

section
/-! The statements of 60_exceptions.md: every operation ends as the contract violation of a check or concludes with a
cause of its own (R286, R289, R291), and which causes those are (R282). -/

namespace Sys2Proof.Machine

open Sys2Proof.Config

/-! ### How an operation ends -/

/-- How an operation called in `s` ends: refused by a check, or concluded with a cause that is no contract violation in
a state `u` whose `ERR` nothing has touched. -/
inductive Ended (s : State) (i : Instr) : State → Prop where
  | refused (k : Check) : Ended s i (violated k (refusedResult i) s)
  | concluded {c : Cause} {u : State} (r : Result) (ordinary : isViolation c = false) (err : u.err = s.err) :
      Ended s i (conclude c r u)

theorem ended_answered {s u : State} (i : Instr) (r : Result) (err : u.err = s.err) : Ended s i (answered r u) := by
  rw [← conclude_noError]; exact .concluded r rfl err

/-- Transfers that began with the `ERR` of `s` conclude an operation called in `s`. -/
theorem Transferred.ended {s q u : State} {c : Cause} (h : Transferred q c u) (err : q.err = s.err) (i : Instr)
    (r : Result) : Ended s i (conclude c r u) :=
  .concluded r h.ordinary (h.err.trans err)

theorem queueShift_err (bits : BitStream) (e : Bool) (s : State) : (queueShift bits e s).err = s.err := by
  cases e <;> rfl

theorem Queues.err {s q : State} {i : Instr} (h : Queues s i q) : q.err = s.err := by
  cases h with
  | flush => rfl
  | resetTap => rfl
  | goThruStates walk => rfl
  | shiftTdi bits e shift tms => exact queueShift_err bits e s

theorem exec_ended {i : Instr} {s t : State} (hi : isRequest i = true) (h : exec i s = .next t) : Ended s i t := by
  cases exec_ran h with
  | refused k request => exact .refused k
  | answered r pure => exact ended_answered i r rfl
  | frame hf => rw [isRequest, hf] at hi; cases hi
  | flushed queues counts =>
    obtain ⟨c, u, htrans, e⟩ := flushBuffers_concludes counts
    rw [e]; exact htrans.ended queues.err _ _
  | queued bits e shift tms room roomTms => exact ended_answered _ _ (queueShift_err bits e s)
  | read out shift tms tdi count =>
    obtain ⟨c, r, u, htrans, _, e⟩ := readPlain_concludes count out s
    rw [e]; exact htrans.ended rfl _ _
  | readExit out shift tms tdi count pos =>
    rcases readThenExit_concludes count out s with ⟨c, u, hc, htrans, _, e⟩ | ⟨c, r, u, htrans, _, e⟩ <;> rw [e]
    · rw [← conclude_error c _ u hc]; exact htrans.ended rfl _ _
    · exact htrans.ended (s := s) rfl _ _
  | pulsed tms tdi count transferred hold => exact transferred.ended rfl _ _

/-! ### `ERR` after an operation (R289) -/

theorem conclude_err (c : Cause) (r : Result) (s : State) :
    (conclude c r s).err = maxSeverity s.err (causeSeverity c) := by
  cases c <;> rfl

theorem severityCode_maxSeverity (a b : Severity) :
    severityCode (maxSeverity a b) = max (severityCode a) (severityCode b) := by
  cases a <;> cases b <;> rfl

theorem Ended.err {s t : State} {i : Instr} (h : Ended s i t) : t.err = maxSeverity s.err t.status := by
  cases h with
  | refused k => exact (maxSeverity_fatal s.err).symm
  | concluded r ordinary err => rw [conclude_err, err, State.status, conclude_cause]

/-- Settles O52: a refusal is Fatal, and a conclusion takes the maximum. -/
theorem errKeepsMaximum : Obligations.ErrKeepsMaximum := by
  intro s t i hi h
  have herr := (exec_ended hi h).err
  exact ⟨herr, by rw [herr, severityCode_maxSeverity]⟩

/-! ### Contract violations and error exits (R286, R291) -/

/-- Settles O53: nothing but a refusal ends as a contract violation. -/
theorem violationChangesOnlyErr : Obligations.ViolationChangesOnlyErr := by
  intro s t i k hi h hk
  cases exec_ended hi h with
  | refused k' => cases hk; rfl
  | concluded r ordinary err =>
    rw [conclude_cause] at hk
    subst hk
    cases ordinary

theorem Ended.buffers {s t : State} {i : Instr} (h : Ended s i t) (herr : t.cause ≠ .noError)
    (hv : isViolation t.cause = false) : t.tmsBuf = [] ∧ t.tdiBuf = [] := by
  cases h with
  | refused k => cases hv
  | concluded r ordinary err =>
    rw [conclude_cause] at herr
    rw [conclude_error _ _ _ herr]
    exact ⟨rfl, rfl⟩

/-- A failed write of a frame that is no read leaves the target in the state the world chose (log entry 14). -/
theorem brokenTap_of_ne_read {flags : Byte} (h : flags ≠ flagsRead) (len : BitVec 32) (payload : List Byte)
    (free : TapState) (s : State) : brokenTap (.j len flags payload) free s = free := by
  rw [brokenTap, if_neg fun hread => h hread.1]

/-- A flush of one frame whose write fails is raised with the write's cause. -/
theorem execFlush_frameFailed {s : State} {n : Nat} {flags : Byte} {payload : List Byte} {why : WriteFailure}
    {d : Disturbance} (hp : s.params.portPresent = true) (hw : s.writeAnswer 0 = .failed why d)
    (hcase : s.tdiBuf.length = 0 ∨ s.tmsBuf.length ≤ 1 ∨ s.tmsBuf.length = s.tdiBuf.length)
    (hcount : ¬ countTooLong s.tmsBuf.length s.tdiBuf.length) (hn : n < 2 ^ 32) (hflags : flags ≠ flagsRead)
    (hframes : flushFrames s.tmsBuf s.tdiBuf = [.j (count32 n) flags payload]) :
    exec .flush s = .next (raised (writeCause why) .none
      (undelivered (jframe s n flags payload) (ieeeState d.tap) why d s)) := by
  have hwrite := emitFrame_failed (s := { s with tmsBuf := [], tdiBuf := [] }) hp hw (.j (count32 n) flags payload)
  rw [execFlush_body hcount, flushBuffers_writes (flushCase_ne_mismatch hcase) hframes
    ((emitAll_singleton _ _).trans hwrite), conclude_error _ _ _ (writeCause_ne why), frameBytes_count32 _ hn,
    brokenTap_of_ne_read hflags]
  rfl

/-- Settles O49: an error is concluded by `raise`, and each flush of one frame by the failure of its write. -/
theorem errorExitEmptiesBuffers : Obligations.ErrorExitEmptiesBuffers := by
  refine ⟨fun s t i hi h => (exec_ended hi h).buffers, fun s why d hp hw =>
    ⟨fun hpos hn htdi => ?_, fun htms hpos hn => ?_, fun hpos hn he => ?_⟩⟩
  · have hlen : s.tdiBuf.length = 0 := List.length_eq_zero_iff.2 htdi
    exact execFlush_frameFailed hp hw (.inl hlen) (by omega) hn (by decide) (htdi ▸ flushFrames_tmsOnly hpos)
  · have hlen : s.tmsBuf.length = 0 := List.length_eq_zero_iff.2 htms
    exact execFlush_frameFailed hp hw (.inr (.inl (by omega))) (by omega) hn (by decide)
      (htms ▸ flushFrames_tdiOnly hpos)
  · exact execFlush_frameFailed hp hw (.inr (.inr he)) (by omega) hn (by decide) (flushFrames_equal hpos he)

/-! ### The causes of the transfers (R281, R282) -/

/-- How a write of frames can end. -/
def writeEnds : List Cause := [.noError, .timeout, .shortWrite, .nullPort, .noHandle]

/-- How writes and reads can end. -/
def transferEnds : List Cause := [.noError, .timeout, .shortWrite, .shortRead, .nullPort, .noHandle]

/-- How a flush can end: as its writes, or as a mismatch. -/
def flushEnds : List Cause := [.noError, .timeout, .shortWrite, .lengthMismatch, .nullPort, .noHandle]

/-- How a `run_test` can end: as its transfers, or with another echo. -/
def runTestEnds : List Cause := [.noError, .timeout, .shortWrite, .shortRead, .echoMismatch, .nullPort, .noHandle]

theorem writeEnds_subset_transferEnds : writeEnds ⊆ transferEnds := by decide

theorem writeEnds_subset_flushEnds : writeEnds ⊆ flushEnds := by decide

theorem transferEnds_subset_runTestEnds : transferEnds ⊆ runTestEnds := by decide

theorem nullPort_mem_writeEnds : Cause.nullPort ∈ writeEnds := by decide

theorem writeCause_mem_writeEnds (why : WriteFailure) : writeCause why ∈ writeEnds := by cases why <;> decide

theorem readCause_mem_transferEnds (why : ReadFailure) : readCause why ∈ transferEnds := by cases why <;> decide

theorem lengthMismatch_mem_flushEnds : Cause.lengthMismatch ∈ flushEnds := by decide

theorem echoMismatch_mem_runTestEnds : Cause.echoMismatch ∈ runTestEnds := by decide

theorem emitFrame_ends (f : Frame) (s : State) : (emitFrame f s).1 ∈ writeEnds := by
  rcases emitFrame_cases f s with ⟨_, e⟩ | ⟨_, _, e⟩ | ⟨why, d, _, _, e⟩ <;> rw [e]
  · exact nullPort_mem_writeEnds
  · exact List.mem_cons_self
  · exact writeCause_mem_writeEnds why

theorem portRead_ends (n : Nat) (s : State) : (portRead n s).cause ∈ transferEnds := by
  rcases portRead_cases n s with ⟨_, e⟩ | ⟨_, _, _, e⟩ | ⟨why, pending, _, _, e⟩ <;> rw [e]
  · exact writeEnds_subset_transferEnds nullPort_mem_writeEnds
  · exact List.mem_cons_self
  · exact readCause_mem_transferEnds why

theorem emitAll_ends (fs : List Frame) (s : State) : (emitAll fs s).1 ∈ writeEnds := by
  induction fs generalizing s with
  | nil => exact List.mem_cons_self
  | cons f rest ih =>
    rw [emitAll_cons]
    split
    · exact ih _
    · exact emitFrame_ends f s

theorem scanTdo_ends (n : Nat) (flags : Byte) (s : State) : (scanTdo n flags s).cause ∈ transferEnds := by
  rcases scanTdo_cases n flags s with ⟨c, s1, hf, _, e⟩ | ⟨s1, c, s2, y, hf, hr, _, e⟩ | ⟨s1, s2, y, hf, hr, e⟩ <;>
    rw [e]
  · have hemit := emitFrame_ends (.j (count32 n) flags []) s
    rw [hf] at hemit
    exact writeEnds_subset_transferEnds hemit
  · have hread := portRead_ends (ceil8 n) s1
    rwa [hr] at hread
  · exact List.mem_cons_self

/-! ### The causes of the operations (R282) -/

theorem flushBuffers_ends (q : State) : (flushBuffers q).cause ∈ flushEnds := by
  rcases flushBuffers_cases q with ⟨_, e⟩ | ⟨c, t, _, ht, ⟨_, e⟩ | ⟨_, e⟩⟩ <;> rw [e]
  · exact lengthMismatch_mem_flushEnds
  · exact List.mem_cons_self
  · have hwrites := emitAll_ends (flushFrames q.tmsBuf q.tdiBuf) { q with tmsBuf := [], tdiBuf := [] }
    rw [ht] at hwrites
    exact writeEnds_subset_flushEnds hwrites

theorem readPlain_ends (n : Nat) (out : BitStream) (s : State) : (readPlain n out s).cause ∈ transferEnds := by
  unfold readPlain
  split
  · exact List.mem_cons_self
  · have hscan := scanTdo_ends n flagsRead s
    split
    next => exact List.mem_cons_self
    next c bits t _ ht => rw [ht] at hscan; exact hscan

theorem readExit_ends (first out : BitStream) (s : State) : (readExit first out s).cause ∈ transferEnds := by
  have hscan := scanTdo_ends 1 flagsExit { s with tapState := nextTap s.tapState true }
  unfold readExit
  split
  next => exact List.mem_cons_self
  next c bits t _ ht => rw [ht] at hscan; exact hscan

theorem readThenExit_ends (n : Nat) (out : BitStream) (s : State) : (readThenExit n out s).cause ∈ transferEnds := by
  unfold readThenExit
  split
  · exact readExit_ends [] out s
  · have hscan := scanTdo_ends (n - 1) flagsRead s
    split
    next bits t _ => exact readExit_ends bits out t
    next c bits t _ ht => rw [ht] at hscan; exact hscan

theorem checkEcho_ends (y : List Byte) (s : State) : (checkEcho y s).cause ∈ runTestEnds := by
  unfold checkEcho
  split
  · exact List.mem_cons_self
  · exact echoMismatch_mem_runTestEnds

/-- An operation behind its checks that was not refused has done what its body does. -/
theorem eq_of_guarded {checks : List (Bool × Check)} {r : Result} {s t after : State}
    (h : Host.Outcome.next (guarded checks r s after) = (.next t : Host.Outcome State Fault Refusal))
    (hv : isViolation t.cause = false) : t = after := by
  cases h
  rcases guarded_cases checks r s after with ⟨_, e⟩ | ⟨k, _, _, e⟩
  · exact e
  · rw [e] at hv; cases hv

theorem execRunTest_ends {n : Nat} {s t : State} (h : exec (.runTest n) s = .next t)
    (hv : isViolation t.cause = false) : t.cause ∈ runTestEnds := by
  have hemit := emitFrame_ends (.r (count32 n)) s
  rw [eq_of_guarded h hv]
  split
  next s1 _ =>
    have hread := portRead_ends echoBytes s1
    split
    next y s2 _ => exact checkEcho_ends y s2
    next c y s2 _ hs2 => rw [hs2] at hread; exact transferEnds_subset_runTestEnds hread
  next c s1 _ hs1 =>
    rw [hs1] at hemit
    exact transferEnds_subset_runTestEnds (writeEnds_subset_transferEnds hemit)

theorem execShiftTdo_ends {n : Nat} {e : Bool} {out : BitStream} {s t : State}
    (h : exec (.shiftTdo n e out) s = .next t) (hv : isViolation t.cause = false) : t.cause ∈ transferEnds := by
  rw [eq_of_guarded h hv]
  split
  · exact readThenExit_ends n out s
  · exact readPlain_ends n out s

/-- The operations that can end in a flush. -/
def IsFlushing (i : Instr) : Prop :=
  i = .flush ∨ i = .resetTap ∨ (∃ targets, i = .goThruStates targets) ∨ ∃ bits e f, i = .shiftTdi bits e f

theorem exec_flushing_ends {i : Instr} {s t : State} (hi : IsFlushing i) (h : exec i s = .next t)
    (hv : isViolation t.cause = false) : t.cause ∈ flushEnds := by
  rcases hi with rfl | rfl | ⟨targets, rfl⟩ | ⟨bits, e, f, rfl⟩ <;> rw [eq_of_guarded h hv]
  · exact flushBuffers_ends s
  · exact flushBuffers_ends _
  · exact flushBuffers_ends _
  · cases f with
    | false => exact List.mem_cons_self
    | true => exact flushBuffers_ends _

theorem exec_pure_cause {i : Instr} {s t : State} (hp : isPure i = true) (h : exec i s = .next t)
    (hv : isViolation t.cause = false) : t.cause = .noError := by
  rcases exec_pure_cases hp h with ⟨k, rfl⟩ | ⟨r, rfl⟩
  · cases hv
  · rfl

theorem execShiftTdi_queued_cause {bits : BitStream} {e : Bool} {s t : State}
    (h : exec (.shiftTdi bits e false) s = .next t) (hv : isViolation t.cause = false) : t.cause = .noError := by
  rw [eq_of_guarded h hv]; rfl

/-- Settles O54, row by row of R282. -/
theorem causesOfEachOperation : Obligations.CausesOfEachOperation := by
  intro s t i _ h hv
  refine ⟨fun hp => exec_pure_cause hp h hv, fun hi => exec_flushing_ends hi h hv, ?_, ?_, ?_⟩
  · rintro ⟨bits, e, rfl⟩; exact execShiftTdi_queued_cause h hv
  · rintro ⟨n, e, out, rfl⟩; exact execShiftTdo_ends h hv
  · rintro ⟨n, rfl⟩; exact execRunTest_ends h hv

end Sys2Proof.Machine
end
